-- ==== Sys2Proof/Word.lean ====
section
/-! DEFINITION. The machine's words: bytes, microsecond readings, tickets, the numbers of lanes, links and
profiles, and `Bank`, a fixed number of like things. -/

namespace Sys2Proof

/-- A byte of a station link (R162). -/
abbrev Byte := BitVec 8

/-- A reading of the free-running 32-bit microsecond counter, or a belt-time (00_scope.md, Time; R65).
Differences are taken mod 2^32, which is `-` on this type. -/
abbrev Micros := BitVec 32

/-- A ticket: a 32-bit number that is carried and not interpreted (R23, R67). -/
abbrev Ticket := BitVec 32

/-- Lanes are numbered 0 to 7 (00_scope.md, Lanes and trays). -/
abbrev LaneId := Fin 8

/-- The station links SL0 to SL3 (R162). -/
abbrev LinkId := Fin 4

/-- Profile records are numbered 0 to 15 (R149). -/
abbrev ProfileId := Fin 16

/-- `n` like things, one for each number below `n`. -/
structure Bank (n : Nat) (α : Type) where
  cells : Vector α n
  deriving DecidableEq, Repr

/-- The thing of number `i`. -/
def Bank.get {n : Nat} {α : Type} (b : Bank n α) (i : Fin n) : α := b.cells.get i

/-- The bank with `a` as the thing of number `i`. -/
def Bank.set {n : Nat} {α : Type} (b : Bank n α) (i : Fin n) (a : α) : Bank n α :=
  ⟨b.cells.set i.val a i.isLt⟩

/-- The bank that holds `a` everywhere. -/
def Bank.fill (n : Nat) {α : Type} (a : α) : Bank n α := ⟨Vector.replicate n a⟩

/-- The bank with `f` applied to every thing in it. -/
def Bank.map {n : Nat} {α β : Type} (f : α → β) (b : Bank n α) : Bank n β :=
  ⟨⟨⟨b.cells.toArray.toList.map f⟩, by simp⟩⟩

/-- The things of a bank in the order of their numbers. -/
def Bank.toList {n : Nat} {α : Type} (b : Bank n α) : List α := b.cells.toArray.toList

/-- Every lane, in number order. -/
def allLanes : List LaneId := [0, 1, 2, 3, 4, 5, 6, 7]

/-- Every link, in number order. -/
def allLinks : List LinkId := [0, 1, 2, 3]

end Sys2Proof
end

