-- ==== Sys2Proof/Syntax.lean ====
section
/-! DEFINITION. The commands the part takes: one constructor of `Instr` for each row of spec/opcode_table.json,
and the types of their operands. -/

namespace Sys2Proof

/-- A part of the block that acts at an event together with others: the Check Station Monitor, a Lane
Sequencer, a lane's Pace Generator. -/
inductive Agent where
  | csm
  | ls (lane : LaneId)
  | pgen (lane : LaneId)
  deriving DecidableEq, Repr

/-- When a command is taken, and in which order the block's parts are taken where the spec leaves the order
open (R30, R60, R134, R144). `reading` is the microsecond counter's reading at the command. `turns` gives
orders: list 0 is the order in which lanes' claims and flights are released and resolved, list 1 the order at
the pitch event, list 2 + k the order at the k-th position offered as a passage; agents a list does not name
come after those it names, in number order, and a list that is missing is an empty one. -/
structure Moment where
  reading : Micros
  turns : List (List Agent)
  deriving DecidableEq, Repr

/-- A level of the check eye, and for how many microseconds it has held (R1, R49). -/
structure EyeLevel where
  occupied : Bool
  held : Nat
  deriving DecidableEq, Repr

/-- The fields of SET_GEOMETRY as the request carries them, at the widths of R183, in the order of R158. -/
structure GeometryWords where
  n : BitVec 16
  c : BitVec 16
  sChk : BitVec 24
  s0 : BitVec 24
  s1 : BitVec 24
  s2 : BitVec 24
  s3 : BitVec 24
  s4 : BitVec 24
  s5 : BitVec 24
  s6 : BitVec 24
  s7 : BitVec 24
  u : BitVec 16
  slipTol : Byte
  pSlow : BitVec 32
  tStall : BitVec 16
  recircLimit : Byte
  deriving DecidableEq, Repr

/-- The ten fields of WRITE_PROFILE as the request carries them, at the widths of R183, in the order of R149. -/
structure ProfileWords where
  tXfer : BitVec 32
  vB : BitVec 16
  guard : Byte
  holdClearMs : BitVec 16
  minLength : BitVec 16
  cap : Byte
  mode : Byte
  fixed : Byte
  iMin : Byte
  iMax : Byte
  deriving DecidableEq, Repr

/-- The requests of the dispatch table (R165), by name. -/
inductive RequestKind where
  | ping | status | bind | unbind
  | setGeometry | writeProfile | readProfile | bindProfile | setLaneMode | setRotation | setQuota | setPace
  | disableTrays | enableTrays | resync | restart | mapRead
  | discharged | clearBlock
  | arm | pause | clear | announce | laneStatus
  deriving DecidableEq, Repr

/-- A request with the fields it carries (R183 gives their widths). -/
inductive Request where
  | ping (bytes : List Byte)
  | status
  | bind (role base limit : Byte)
  | unbind
  | setGeometry (g : GeometryWords)
  | writeProfile (profile : Byte) (w : ProfileWords)
  | readProfile (profile : Byte)
  | bindProfile (lane profile : Byte)
  | setLaneMode (lane mode : Byte)
  | setRotation (count : Byte) (slots : List Byte)
  | setQuota (lane : Byte) (quota : BitVec 16)
  | setPace (lane interval : Byte)
  | disableTrays (base limit : BitVec 16)
  | enableTrays (base limit : BitVec 16)
  | resync
  | restart
  | mapRead (base : BitVec 16) (count : Byte)
  | discharged (tray : BitVec 16)
  | clearBlock (tray : BitVec 16)
  | arm (lane : Byte)
  | pause (lane : Byte)
  | clear (lane : Byte)
  | announce (lane : Byte) (ticket : Ticket)
  | laneStatus (lane : Byte)
  deriving DecidableEq, Repr

/-- The commands, in the order of spec/opcode_table.json. `held` is for how many microseconds the line has held
its new level (R1); `eye` is what the check eye has shown since the last command that carries it, oldest first, down
to the event (R1, R49; notes/assumptions/7.md). A request command is the request as a valid frame brings it on
`link`, with its Tag. -/
inductive Instr where
  | powerUp
  | encoderCount (m : Moment) (held : Nat) (eye : List EyeLevel)
  | homePulse (m : Moment) (held : Nat) (eye : List EyeLevel)
  | stallTimerExpiry (m : Moment)
  | lengthEyeLeadingEdge (m : Moment) (held : Nat) (lane : LaneId)
  | lengthEyeTrailingEdge (m : Moment) (held : Nat) (lane : LaneId)
  | holdEyeBlocked (m : Moment) (held : Nat) (lane : LaneId)
  | holdEyeCleared (m : Moment) (held : Nat) (lane : LaneId)
  | holdClearTimeout (m : Moment) (lane : LaneId)
  | restartInput (m : Moment) (held : Nat)
  | liveTimerExpiry (m : Moment) (link : LinkId)
  | frameReceived (m : Moment) (link : LinkId) (kind tag : Byte) (payload : List Byte) (crc : BitVec 16)
  | framingError (m : Moment) (link : LinkId)
  | frameGapTimeout (m : Moment) (link : LinkId)
  | frameSent (m : Moment) (link : LinkId)
  | ping (m : Moment) (link : LinkId) (tag : Byte) (bytes : List Byte)
  | status (m : Moment) (link : LinkId) (tag : Byte)
  | bind (m : Moment) (link : LinkId) (tag : Byte) (role base limit : Byte)
  | unbind (m : Moment) (link : LinkId) (tag : Byte)
  | setGeometry (m : Moment) (link : LinkId) (tag : Byte) (g : GeometryWords)
  | writeProfile (m : Moment) (link : LinkId) (tag : Byte) (profile : Byte) (w : ProfileWords)
  | readProfile (m : Moment) (link : LinkId) (tag : Byte) (profile : Byte)
  | bindProfile (m : Moment) (link : LinkId) (tag : Byte) (lane profile : Byte)
  | setLaneMode (m : Moment) (link : LinkId) (tag : Byte) (lane mode : Byte)
  | setRotation (m : Moment) (link : LinkId) (tag : Byte) (count : Byte) (slots : List Byte)
  | setQuota (m : Moment) (link : LinkId) (tag : Byte) (lane : Byte) (quota : BitVec 16)
  | setPace (m : Moment) (link : LinkId) (tag : Byte) (lane interval : Byte)
  | disableTrays (m : Moment) (link : LinkId) (tag : Byte) (base limit : BitVec 16)
  | enableTrays (m : Moment) (link : LinkId) (tag : Byte) (base limit : BitVec 16)
  | resync (m : Moment) (link : LinkId) (tag : Byte)
  | restart (m : Moment) (link : LinkId) (tag : Byte)
  | mapRead (m : Moment) (link : LinkId) (tag : Byte) (base : BitVec 16) (count : Byte)
  | discharged (m : Moment) (link : LinkId) (tag : Byte) (tray : BitVec 16)
  | clearBlock (m : Moment) (link : LinkId) (tag : Byte) (tray : BitVec 16)
  | arm (m : Moment) (link : LinkId) (tag : Byte) (lane : Byte)
  | pause (m : Moment) (link : LinkId) (tag : Byte) (lane : Byte)
  | clear (m : Moment) (link : LinkId) (tag : Byte) (lane : Byte)
  | announce (m : Moment) (link : LinkId) (tag : Byte) (lane : Byte) (ticket : Ticket)
  | laneStatus (m : Moment) (link : LinkId) (tag : Byte) (lane : Byte)
  | byteReceived (m : Moment) (link : LinkId) (byte : Byte)
  | restartInputFall (m : Moment) (held : Nat)
  deriving DecidableEq, Repr

end Sys2Proof
end

