-- ==== Sys2Proof/Decode.lean ====
section
/-! DEFINITION. Reading commands from bits. No row of spec/opcode_table.json gives bits, so `decodeTableWord`
answers none. The requests do have an encoding: the Kind and payload of a frame (R165, R183), read by
`decodeRequest` and written by `Request.code` and `Request.payload`. -/

namespace Sys2Proof

/-- The command that a word spells by the table's bits: no row of the table gives any. -/
def decodeTableWord (_nbits _w : Nat) : Option Instr := none

/-- R165, the dispatch table: the Kind byte of each request. -/
def RequestKind.code : RequestKind → Byte
  | .ping => 0x01
  | .status => 0x02
  | .bind => 0x03
  | .unbind => 0x04
  | .setGeometry => 0x08
  | .writeProfile => 0x09
  | .readProfile => 0x0A
  | .bindProfile => 0x0B
  | .setLaneMode => 0x0C
  | .setRotation => 0x0D
  | .setQuota => 0x0E
  | .setPace => 0x0F
  | .disableTrays => 0x10
  | .enableTrays => 0x11
  | .resync => 0x12
  | .restart => 0x13
  | .mapRead => 0x14
  | .discharged => 0x18
  | .clearBlock => 0x19
  | .arm => 0x20
  | .pause => 0x21
  | .clear => 0x22
  | .announce => 0x23
  | .laneStatus => 0x24

/-- Every request of the dispatch table. -/
def allRequestKinds : List RequestKind :=
  [.ping, .status, .bind, .unbind, .setGeometry, .writeProfile, .readProfile, .bindProfile, .setLaneMode,
   .setRotation, .setQuota, .setPace, .disableTrays, .enableTrays, .resync, .restart, .mapRead, .discharged,
   .clearBlock, .arm, .pause, .clear, .announce, .laneStatus]

/-- The request a Kind byte names, if it names one (R164 step 2, R165). -/
def requestKindOf (kind : Byte) : Option RequestKind := allRequestKinds.find? (fun k => k.code == kind)

/-- The name of a request. -/
def Request.kind : Request → RequestKind
  | .ping _ => .ping
  | .status => .status
  | .bind .. => .bind
  | .unbind => .unbind
  | .setGeometry _ => .setGeometry
  | .writeProfile .. => .writeProfile
  | .readProfile _ => .readProfile
  | .bindProfile .. => .bindProfile
  | .setLaneMode .. => .setLaneMode
  | .setRotation .. => .setRotation
  | .setQuota .. => .setQuota
  | .setPace .. => .setPace
  | .disableTrays .. => .disableTrays
  | .enableTrays .. => .enableTrays
  | .resync => .resync
  | .restart => .restart
  | .mapRead .. => .mapRead
  | .discharged _ => .discharged
  | .clearBlock _ => .clearBlock
  | .arm _ => .arm
  | .pause _ => .pause
  | .clear _ => .clear
  | .announce .. => .announce
  | .laneStatus _ => .laneStatus

/-- Two bytes, most significant first (R183). -/
def joinTwo (a b : Byte) : BitVec 16 := a ++ b

/-- Three bytes, most significant first. -/
def joinThree (a b c : Byte) : BitVec 24 := a ++ b ++ c

/-- Four bytes, most significant first. -/
def joinFour (a b c d : Byte) : BitVec 32 := a ++ b ++ c ++ d

/-- The bytes of a 16-bit field, most significant first (R183). -/
def bytesOfTwo (w : BitVec 16) : List Byte := [w.extractLsb' 8 8, w.extractLsb' 0 8]

/-- The bytes of a 24-bit field. -/
def bytesOfThree (w : BitVec 24) : List Byte := [w.extractLsb' 16 8, w.extractLsb' 8 8, w.extractLsb' 0 8]

/-- The bytes of a 32-bit field. -/
def bytesOfFour (w : BitVec 32) : List Byte :=
  [w.extractLsb' 24 8, w.extractLsb' 16 8, w.extractLsb' 8 8, w.extractLsb' 0 8]

/-- The payload that carries a geometry record: 41 bytes, in the order of R158. -/
def GeometryWords.bytes (g : GeometryWords) : List Byte :=
  bytesOfTwo g.n ++ bytesOfTwo g.c ++ bytesOfThree g.sChk
    ++ bytesOfThree g.s0 ++ bytesOfThree g.s1 ++ bytesOfThree g.s2 ++ bytesOfThree g.s3
    ++ bytesOfThree g.s4 ++ bytesOfThree g.s5 ++ bytesOfThree g.s6 ++ bytesOfThree g.s7
    ++ bytesOfTwo g.u ++ [g.slipTol] ++ bytesOfFour g.pSlow ++ bytesOfTwo g.tStall ++ [g.recircLimit]

/-- The bytes that carry a profile's ten fields: 16 bytes, in the order of R149. -/
def ProfileWords.bytes (w : ProfileWords) : List Byte :=
  bytesOfFour w.tXfer ++ bytesOfTwo w.vB ++ [w.guard] ++ bytesOfTwo w.holdClearMs ++ bytesOfTwo w.minLength
    ++ [w.cap, w.mode, w.fixed, w.iMin, w.iMax]

/-- The payload of a request's frame (R183). -/
def Request.payload : Request → List Byte
  | .ping bytes => bytes
  | .status => []
  | .bind role base limit => [role, base, limit]
  | .unbind => []
  | .setGeometry g => g.bytes
  | .writeProfile p w => p :: w.bytes
  | .readProfile p => [p]
  | .bindProfile lane p => [lane, p]
  | .setLaneMode lane mode => [lane, mode]
  | .setRotation count slots => count :: slots
  | .setQuota lane quota => lane :: bytesOfTwo quota
  | .setPace lane interval => [lane, interval]
  | .disableTrays base limit => bytesOfTwo base ++ bytesOfTwo limit
  | .enableTrays base limit => bytesOfTwo base ++ bytesOfTwo limit
  | .resync => []
  | .restart => []
  | .mapRead base count => bytesOfTwo base ++ [count]
  | .discharged tray => bytesOfTwo tray
  | .clearBlock tray => bytesOfTwo tray
  | .arm lane => [lane]
  | .pause lane => [lane]
  | .clear lane => [lane]
  | .announce lane ticket => lane :: bytesOfFour ticket
  | .laneStatus lane => [lane]

/-- A geometry record read from the 41 bytes of its payload (R158, R183). -/
def geometryWordsOf : List Byte → Option GeometryWords
  | n1 :: n0 :: c1 :: c0 :: k2 :: k1 :: k0 :: a2 :: a1 :: a0 :: b2 :: b1 :: b0 :: d2 ::
    d1 :: d0 :: e2 :: e1 :: e0 :: f2 :: f1 :: f0 :: g2 :: g1 :: g0 :: h2 :: h1 :: h0 :: i2 ::
    i1 :: i0 :: u1 :: u0 :: tol :: p3 :: p2 :: p1 :: p0 :: t1 :: t0 :: lim :: [] =>
    some { n := joinTwo n1 n0, c := joinTwo c1 c0, sChk := joinThree k2 k1 k0,
           s0 := joinThree a2 a1 a0, s1 := joinThree b2 b1 b0, s2 := joinThree d2 d1 d0,
           s3 := joinThree e2 e1 e0, s4 := joinThree f2 f1 f0, s5 := joinThree g2 g1 g0,
           s6 := joinThree h2 h1 h0, s7 := joinThree i2 i1 i0,
           u := joinTwo u1 u0, slipTol := tol, pSlow := joinFour p3 p2 p1 p0,
           tStall := joinTwo t1 t0, recircLimit := lim }
  | _ => none

/-- A profile's ten fields read from their 16 bytes (R149, R183). -/
def profileWordsOf : List Byte → Option ProfileWords
  | [x3, x2, x1, x0, v1, v0, g, h1, h0, l1, l0, cap, mode, fixed, iMin, iMax] =>
    some { tXfer := joinFour x3 x2 x1 x0, vB := joinTwo v1 v0, guard := g, holdClearMs := joinTwo h1 h0,
           minLength := joinTwo l1 l0, cap := cap, mode := mode, fixed := fixed, iMin := iMin, iMax := iMax }
  | _ => none

/-- The request of a given name read from its payload; none where the payload is shorter or longer than the
request's fields call for (R164 step 5, R183). -/
def requestOf (kind : RequestKind) (payload : List Byte) : Option Request :=
  match kind, payload with
  | .ping, bytes => some (.ping bytes)
  | .status, [] => some .status
  | .bind, [role, base, limit] => some (.bind role base limit)
  | .unbind, [] => some .unbind
  | .setGeometry, bytes => (geometryWordsOf bytes).map .setGeometry
  | .writeProfile, p :: bytes => (profileWordsOf bytes).map (.writeProfile p)
  | .readProfile, [p] => some (.readProfile p)
  | .bindProfile, [lane, p] => some (.bindProfile lane p)
  | .setLaneMode, [lane, mode] => some (.setLaneMode lane mode)
  | .setRotation, count :: slots => some (.setRotation count slots)
  | .setQuota, [lane, q1, q0] => some (.setQuota lane (joinTwo q1 q0))
  | .setPace, [lane, interval] => some (.setPace lane interval)
  | .disableTrays, [b1, b0, l1, l0] => some (.disableTrays (joinTwo b1 b0) (joinTwo l1 l0))
  | .enableTrays, [b1, b0, l1, l0] => some (.enableTrays (joinTwo b1 b0) (joinTwo l1 l0))
  | .resync, [] => some .resync
  | .restart, [] => some .restart
  | .mapRead, [b1, b0, count] => some (.mapRead (joinTwo b1 b0) count)
  | .discharged, [t1, t0] => some (.discharged (joinTwo t1 t0))
  | .clearBlock, [t1, t0] => some (.clearBlock (joinTwo t1 t0))
  | .arm, [lane] => some (.arm lane)
  | .pause, [lane] => some (.pause lane)
  | .clear, [lane] => some (.clear lane)
  | .announce, [lane, t3, t2, t1, t0] => some (.announce lane (joinFour t3 t2 t1 t0))
  | .laneStatus, [lane] => some (.laneStatus lane)
  | _, _ => none

/-- What a valid frame's Kind and payload say: a request, a Kind that names none, or a request whose payload has
the wrong length. -/
inductive Decoded where
  | unknown
  | badForm (kind : RequestKind)
  | request (r : Request)
  deriving DecidableEq, Repr

/-- R164 steps 2 and 5: reading a request from a frame's Kind and payload. -/
def decodeRequest (kind : Byte) (payload : List Byte) : Decoded :=
  match requestKindOf kind with
  | none => .unknown
  | some k =>
    match requestOf k payload with
    | none => .badForm k
    | some r => .request r

/-- The command that a request is, on a link, with its Tag. -/
def Request.toInstr (m : Moment) (link : LinkId) (tag : Byte) : Request → Instr
  | .ping bytes => .ping m link tag bytes
  | .status => .status m link tag
  | .bind role base limit => .bind m link tag role base limit
  | .unbind => .unbind m link tag
  | .setGeometry g => .setGeometry m link tag g
  | .writeProfile p w => .writeProfile m link tag p w
  | .readProfile p => .readProfile m link tag p
  | .bindProfile lane p => .bindProfile m link tag lane p
  | .setLaneMode lane mode => .setLaneMode m link tag lane mode
  | .setRotation count slots => .setRotation m link tag count slots
  | .setQuota lane quota => .setQuota m link tag lane quota
  | .setPace lane interval => .setPace m link tag lane interval
  | .disableTrays base limit => .disableTrays m link tag base limit
  | .enableTrays base limit => .enableTrays m link tag base limit
  | .resync => .resync m link tag
  | .restart => .restart m link tag
  | .mapRead base count => .mapRead m link tag base count
  | .discharged tray => .discharged m link tag tray
  | .clearBlock tray => .clearBlock m link tag tray
  | .arm lane => .arm m link tag lane
  | .pause lane => .pause m link tag lane
  | .clear lane => .clear m link tag lane
  | .announce lane ticket => .announce m link tag lane ticket
  | .laneStatus lane => .laneStatus m link tag lane

end Sys2Proof
end

