-- ==== Sys2Proof/Config.lean ====
section
/-! DEFINITION. The fixed figures of the part, each with the rule that gives it, and the one value the spec
leaves free. -/

namespace Sys2Proof.Config

/-- R1: an edge of an input line is acted on once the line has held its new level for 50 µs. -/
def lineHold : Nat := 50

/-- R1: 5 µs on the pitch encoder input. -/
def encoderHold : Nat := 5

/-- R1: the restart input becomes active once held for 10 ms. -/
def restartHold : Nat := 10000

/-- R5: the least pitch period used in launch arithmetic, in µs. -/
def fastestPitch : Nat := 40000

/-- R3: the speed history holds at most four intervals. -/
def historyPlaces : Nat := 4

/-- R67, R68: a lane's parcel list holds at most 4 records. -/
def recordPlaces : Nat := 4

/-- R73: a lane's pending ticket list holds at most 8 tickets. -/
def ticketPlaces : Nat := 8

/-- R103: a lane's in-flight list holds at most 4 entries. -/
def flightPlaces : Nat := 4

/-- R87: the largest lead the part acts on is sixteen pitches. -/
def leadPitches : Nat := 16

/-- R171: a link's transmit queue has 40 places. -/
def queuePlaces : Nat := 40

/-- R172: a notice joins only while fewer than 32 places are in use. -/
def noticePlaces : Nat := 32

/-- R80, R163: lane and link counters are 16 bits wide and saturate. -/
def counterTop : Nat := 65535

/-- R53: the recirculation count stays at 15 once it is there. -/
def recircTop : Nat := 15

/-- R129: the highest quota reload value. -/
def quotaTop : Nat := 1024

/-- R125: the rotation list holds at most 16 slots. -/
def rotationPlaces : Nat := 16

/-- R169: the period of a live timer, in ms. -/
def livePeriod : Nat := 1000

/-- R162: the Length byte of a frame lies within 2 to 252. -/
def lengthLow : Nat := 2

/-- R162: the Length byte of a frame lies within 2 to 252. -/
def lengthHigh : Nat := 252

/-- R176: a PING of more than 249 bytes is refused. -/
def pingBytes : Nat := 249

/-- R12 reads a deviation in the range −NC/2 to NC/2 − 1. Where NC is odd, one residue (half a turn) has no
reading in that range: whether it is read as positive is left open. A free value (notes/assumptions/10.md):
nothing can evaluate it. -/
opaque oddHalfTurn : Nat → Bool

end Sys2Proof.Config
end

