-- ==== Sys2Proof/Machine/State.lean ====
section
/-! DEFINITION. Everything the part holds, block by block, as plain data, and the values after power-up. A field
that the spec gives only in certain states is an argument of that state's constructor, so it is absent in every
other state by construction (R23, R67, R96). -/

namespace Sys2Proof.Machine

/-! ### Enumerations (codes of R183 in Machine/Layout.lean) -/

/-- R7 to R9: the loop states. -/
inductive LoopState where
  | unsynced | stopped | crawling | running
  deriving DecidableEq, Repr

/-- R9: the causes of a STATE event. -/
inductive StateCause where
  | motion | speed | stall | marker | escalation | resync | restart | geometry
  deriving DecidableEq, Repr

/-- R62: the lane modes. -/
inductive LaneMode where
  | absent | auto | manual
  deriving DecidableEq, Repr

/-- R110: the reasons of FAULTED. -/
inductive FaultReason where
  | jam | tooLong | overfill | unmeasured
  deriving DecidableEq, Repr

/-- R109: the reasons of CLAIM_RELEASED. -/
inductive ReleaseReason where
  | missed | leadRange | paused | masterLost | loopNotRunning | slip | trayDisabled | trayBlocked
  deriving DecidableEq, Repr

/-- R26: the reasons of an UNVERIFIED tray event. -/
inductive UnverifiedReason where
  | mergeUncleared | jam | slip | resync
  deriving DecidableEq, Repr

/-- R23: the block causes. -/
inductive BlockCause where
  | ghost | reservedGhost
  deriving DecidableEq, Repr

/-- R27: a tray's role in a pair. -/
inductive PairRole where
  | lead | trail
  deriving DecidableEq, Repr

/-- R67: how many trays an INDUCT parcel needs. -/
inductive Span where
  | one | two
  deriving DecidableEq, Repr

/-- R67: a measured parcel's disposition; a span is present when it is INDUCT. -/
inductive Disposition where
  | induct (span : Span)
  | reject
  deriving DecidableEq, Repr

/-- R149: the pace modes. -/
inductive PaceMode where
  | fixed | auto
  deriving DecidableEq, Repr

/-- R138: the cue states. -/
inductive Cue where
  | dark | place | wait | alert
  deriving DecidableEq, Repr

/-- The seven tray states by name (R23), as replies and notices carry them. -/
inductive TrayState where
  | free | reserved | launched | loaded | unverified | blocked | disabled
  deriving DecidableEq, Repr

/-- The eight lane states by name (R96), as replies and notices carry them. -/
inductive LaneStateName where
  | absent | paused | idle | waiting | tracking | committed | releasing | faulted
  deriving DecidableEq, Repr

/-- R183: the reasons of a refusal. -/
inductive RefuseReason where
  | notBound | wrongRole | outOfWindow | roleTaken | windowOverlap | busy | wrongState | full | stale
  | badValue | unknown
  deriving DecidableEq, Repr

/-! ### The tray map (R23) -/

/-- R23, R27: the other tray of a pair, and this tray's role. -/
structure Partner where
  tray : Nat
  role : PairRole
  deriving DecidableEq, Repr

/-- What a LOADED tray holds of a load that came from a lane (R23). -/
structure LaneLoad where
  holder : LaneId
  ticket : Option Ticket
  length : Nat
  deriving DecidableEq, Repr

/-- R23: a tray's entry. Each state carries exactly the fields that the table of R23 marks as present in it; a
LOADED entry without a `LaneLoad` is a found load (R55). -/
inductive Tray where
  | free (earmark : Option LaneId)
  | reserved (holder : LaneId) (pair : Option Partner) (disablePending : Bool)
  | launched (load : LaneLoad) (pair : Option Partner) (disablePending : Bool)
  | loaded (load : Option LaneLoad) (pair : Option Partner) (recirc : Nat) (firstPass disablePending : Bool)
  | unverified (disablePending : Bool)
  | blocked (emptyStreak : Nat) (cause : BlockCause)
  | disabled
  deriving DecidableEq, Repr

/-! ### The loop and its settings -/

/-- R158: the geometry record. -/
structure Geometry where
  n : Nat
  c : Nat
  sChk : Nat
  merge : Bank 8 Nat
  u : Nat
  slipTol : Nat
  pSlow : Nat
  tStall : Nat
  recircLimit : Nat
  deriving DecidableEq, Repr

/-- R149: a profile record, or a lane's active copy of one (R153). -/
structure Profile where
  tXfer : Nat
  vB : Nat
  guard : Nat
  holdClearMs : Nat
  minLength : Nat
  cap : Nat
  mode : PaceMode
  fixed : Nat
  iMin : Nat
  iMax : Nat
  deriving DecidableEq, Repr

/-- R149: the default figures of every record after power-up. -/
def Profile.default : Profile :=
  { tXfer := 800000, vB := 1500, guard := 2, holdClearMs := 2000, minLength := 50, cap := 2,
    mode := .fixed, fixed := 8, iMin := 2, iMax := 60 }

/-- The Loop Tracker (section 1.1). `stall` is the stall timer: idle, or running since a reading (R2, R7). -/
structure Ltk where
  loop : LoopState
  q : Nat
  movement : Bool
  lastPitch : Option Micros
  history : List Nat
  stall : Option Micros
  slips : Nat
  resyncRequired : Bool
  resyncPending : Bool
  armed : Bool
  windowOpen : Bool
  recount : Nat
  overspeedArmed : Bool
  revolution : BitVec 16
  deriving DecidableEq, Repr

/-- The Check Station Monitor's tallies (R58). -/
structure Csm where
  fRev : Nat
  fPrev : Nat
  deriving DecidableEq, Repr

/-- What the Earmark Allocator holds for one lane (section 7.1). -/
structure Share where
  reload : Nat
  counter : Nat
  outstanding : Nat
  deriving DecidableEq, Repr

/-- The Earmark Allocator (section 7.1). -/
structure Eal where
  rotation : List LaneId
  position : Nat
  shares : Bank 8 Share
  deriving DecidableEq, Repr

/-- The Profile Store: sixteen records and the geometry record, if one has been accepted (R149, R158). -/
structure Pst where
  profiles : Bank 16 Profile
  geometry : Option Geometry
  deriving DecidableEq, Repr

/-! ### Lanes -/

/-- R91: the launch solution of a lane in TRACKING or COMMITTED. -/
structure Solution where
  tray : Nat
  partner : Option Nat
  offset : Nat
  merge : Nat
  lead : Nat
  launch : Nat
  dist : Int
  deriving DecidableEq, Repr

/-- R96: the lane state with what it alone carries: the launch solution in TRACKING and COMMITTED, the hold-clear
timer (the reading at its start, and its period in ms) in RELEASING, the fault reason in FAULTED. -/
inductive LaneState where
  | absent
  | paused
  | idle
  | waiting
  | tracking (sol : Solution)
  | committed (sol : Solution)
  | releasing (since : Micros) (periodMs : Nat)
  | faulted (reason : FaultReason)
  deriving DecidableEq, Repr

/-- What the trailing edge writes into a record (R71). -/
structure Measured where
  ticket : Option Ticket
  length : Nat
  disposition : Disposition
  deriving DecidableEq, Repr

/-- R67: a parcel record by its phase. -/
inductive ParcelRecord where
  | measuring (leading : Micros) (ticket : Option Ticket)
  | onBelt (parcel : Measured)
  | atHold (parcel : Measured)
  deriving DecidableEq, Repr

/-- R103: an in-flight entry. -/
structure InFlight where
  tray : Nat
  partner : Option Nat
  ticket : Option Ticket
  length : Nat
  merge : Nat
  holdClear : Bool
  deriving DecidableEq, Repr

/-- R80: the six lane counters. -/
structure Counters where
  noReads : Nat
  glitches : Nat
  launches : Nat
  missed : Nat
  early : Nat
  idleBeats : Nat
  deriving DecidableEq, Repr

/-- A Lane Sequencer (R62, R96). -/
structure Lane where
  mode : LaneMode
  state : LaneState
  records : List ParcelRecord
  tickets : List Ticket
  inflight : List InFlight
  pausePending : Bool
  overfillPending : Bool
  overfillDue : Bool
  leadMark : Bool
  profile : ProfileId
  copy : Profile
  adoptPending : Bool
  counters : Counters
  launchesRev : Nat
  beltTime : Micros
  deriving DecidableEq, Repr

/-- What the Pace Generator holds for one lane (R137), with the reading at which the cue lamp's flash last began
(R138). -/
structure Pace where
  beat : Nat
  active : Nat
  pending : Nat
  cue : Cue
  flashFrom : Micros
  deriving DecidableEq, Repr

/-! ### Frames the part sends -/

/-- R165: a lane window, base at most limit. -/
structure Window where
  base : LaneId
  limit : LaneId
  deriving DecidableEq, Repr

/-- R175: one lane's figures in the REVOLUTION summary. -/
structure LaneFigures where
  launchesRev : Nat
  counters : Counters
  quota : Nat
  deriving DecidableEq, Repr

/-- R45: the trays of the map counted by state. -/
structure TrayCounts where
  free : Nat
  reserved : Nat
  launched : Nat
  loaded : Nat
  unverified : Nat
  blocked : Nat
  disabled : Nat
  deriving DecidableEq, Repr

/-- R175: the REVOLUTION summary. -/
structure Revolution where
  number : BitVec 16
  loop : LoopState
  fPrev : Nat
  counts : TrayCounts
  lanes : Bank 8 LaneFigures
  deriving DecidableEq, Repr

/-- R174: the notices, each with the fields its posting rule names in that rule's order. -/
inductive Notice where
  /-- R9 -/
  | state (old new : LoopState) (cause : StateCause)
  /-- R16 -/
  | slip (d : Int)
  /-- R17 -/
  | markerMissing
  /-- R18 -/
  | positionUntrusted
  /-- R13 -/
  | resyncDone
  /-- R6 -/
  | overspeed (pAvg : Nat)
  /-- R175 -/
  | revolution (r : Revolution)
  /-- R169 -/
  | linkLapsed (link : LinkId) (planner discharge : Bool) (window : Option Window)
  /-- R34, R55: `found` and the tray's entry -/
  | load (tray : Nat) (found : Bool) (entry : Tray)
  /-- R50 -/
  | ghost (tray : Nat) (earmark : Option LaneId)
  /-- R51; of a pair, the LEAD first (R57) -/
  | reservedGhost (tray : Nat) (partner : Option Nat) (holder : LaneId) (states : List TrayState)
  /-- R52 -/
  | lost (tray : Nat) (partner : Option Nat) (holder : Option LaneId) (ticket : Option Ticket)
      (length : Option Nat) (recirc : Nat) (states : List TrayState)
  /-- R53 -/
  | recircLimit (tray : Nat) (partner : Option Nat) (holder : Option LaneId) (ticket : Option Ticket) (count : Nat)
  /-- R26 -/
  | unverified (tray : Nat) (partner : Option Nat) (reason : UnverifiedReason) (lane : LaneId)
      (ticket : Option Ticket)
  /-- R56 -/
  | resolved (tray : Nat) (cause : BlockCause) (state : TrayState)
  /-- R102 -/
  | launched (lane : LaneId) (tray : Nat) (partner : Option Nat) (ticket : Option Ticket) (length : Nat)
  /-- R109 -/
  | claimReleased (lane : LaneId) (reason : ReleaseReason) (tray : Option Nat) (partner : Option Nat)
      (state : LaneStateName)
  /-- R111 -/
  | laneFault (lane : LaneId) (reason : FaultReason) (records : Nat) (headTicket : Option Ticket)
      (trays : List Nat) (removedTicket : Option Ticket)
  /-- R72 -/
  | ticketDropped (lane : LaneId) (ticket : Ticket)
  deriving DecidableEq, Repr

/-- R177: the figures of a STATUS reply. `roles` gives the roles and window of the four links. -/
structure StatusReport where
  loop : LoopState
  q : Nat
  pAvg : Nat
  revolution : BitVec 16
  slips : Nat
  resyncRequired : Bool
  resyncPending : Bool
  geometry : Option (Nat × Nat)
  roles : Bank 4 (Bool × Bool × Option Window)
  placesInUse : Nat
  overflowReported : Bool
  frameErrors : Nat
  overruns : Nat
  deriving DecidableEq, Repr

/-- R116: the figures of a LANE_STATUS reply. -/
structure LaneReport where
  mode : LaneMode
  state : LaneStateName
  fault : Option FaultReason
  pausePending : Bool
  overfillDue : Bool
  leadMark : Bool
  adoptPending : Bool
  overfillReported : Bool
  profile : ProfileId
  records : List ParcelRecord
  tickets : Nat
  inflight : List InFlight
  solution : Option Solution
  counters : Counters
  launchesRev : Nat
  cue : Option Cue
  deriving DecidableEq, Repr

/-- What a reply carries after its status byte, by the request and rule that gives it. -/
inductive ReplyBody where
  | none
  /-- R176 -/
  | echo (bytes : List Byte)
  /-- R177 -/
  | status (r : StatusReport)
  /-- R166: roles and window after the request -/
  | bindings (planner discharge : Bool) (window : Option Window)
  /-- R167: the link's roles -/
  | roles (planner discharge lane : Bool)
  /-- R166: the link that holds the role, or whose window overlaps -/
  | holder (link : LinkId)
  /-- R160: the record as accepted (its NC is n times c) -/
  | geometry (g : Geometry)
  /-- R159: the first field out of range, by its place in the table of R158 -/
  | geometryField (index : Nat)
  /-- R159: BUSY -/
  | loop (l : LoopState)
  /-- R150 -/
  | profileWritten (profile : ProfileId) (p : Profile)
  /-- R151 -/
  | profileRead (p : Profile) (bound : List LaneId)
  /-- R152 -/
  | profileBound (lane : LaneId) (profile : ProfileId) (adoptPending : Bool)
  /-- R180 -/
  | laneMode (lane : LaneId) (mode : LaneMode) (state : LaneStateName)
  /-- R180: BUSY -/
  | laneBusy (state : LaneStateName) (inflight : Nat)
  /-- R126: the slot count and the eight lanes' weights -/
  | rotation (slots : Nat) (weights : Bank 8 Nat)
  /-- R130 -/
  | quota (lane : LaneId) (reload counter : Nat)
  /-- R145 -/
  | pace (lane : LaneId) (pending active : Nat) (mode : PaceMode)
  /-- R41 -/
  | disabled (trays pending claims : Nat)
  /-- R43 -/
  | enabled (unverified cleared : Nat)
  /-- R19 -/
  | resync (l : LoopState) (required pending : Bool)
  /-- R44: each record with its tray's index -/
  | map (l : LoopState) (q : Nat) (revolution : BitVec 16) (records : List (Nat × Tray))
  /-- R37: each tray named with its new state -/
  | trays (named : List (Nat × TrayState))
  /-- R39: the tray and its new state -/
  | tray (index : Nat) (state : TrayState)
  /-- R37, R39: STALE -/
  | present (state : TrayState)
  /-- R112, R115 -/
  | laneState (state : LaneStateName)
  /-- R113 -/
  | paused (state : LaneStateName) (pausePending : Bool)
  /-- R74 -/
  | tickets (count : Nat)
  /-- R116 -/
  | lane (r : LaneReport)
  deriving DecidableEq, Repr

/-- R164, R183: a reply's status (OK, with the clamped flag; or refused with a reason) and what follows it. -/
inductive ReplyStatus where
  | ok (clamped : Bool)
  | refused (reason : RefuseReason)
  deriving DecidableEq, Repr

/-- A reply: the status byte and the figures after it (R164). -/
structure Reply where
  status : ReplyStatus
  body : ReplyBody
  deriving DecidableEq, Repr

/-- R171: a frame in a transmit queue, a reply (with the Kind of its request and its Tag) or a notice. -/
inductive OutFrame where
  | reply (kind tag : Byte) (r : Reply)
  | notice (n : Notice)
  deriving DecidableEq, Repr

/-! ### Links -/

/-- R162: the receiver; `collecting` holds the bytes taken since the start byte 0xA5. -/
inductive Receiver where
  | hunting
  | collecting (bytes : List Byte)
  deriving DecidableEq, Repr

/-- A station link (section 10.8). LANE is held exactly while there is a window (R165). `live` is the live timer:
idle, or running since a reading (R169). -/
structure Link where
  planner : Bool
  discharge : Bool
  window : Option Window
  live : Option Micros
  receiver : Receiver
  queue : List OutFrame
  overflow : Bool
  frameErrors : Nat
  overruns : Nat
  deriving DecidableEq, Repr

/-- The levels of the input lines, as the part last acted on them: `true` is occupied, blocked or active. -/
structure Lines where
  checkEye : Bool
  lengthEye : Bank 8 Bool
  holdEye : Bank 8 Bool
  restartActive : Bool
  deriving DecidableEq, Repr

/-- The part: its nine blocks, its input lines, its microsecond counter, and the commands waiting. -/
structure State where
  ltk : Ltk
  tmap : List Tray
  csm : Csm
  eal : Eal
  lanes : Bank 8 Lane
  pace : Bank 8 Pace
  pst : Pst
  links : Bank 4 Link
  lines : Lines
  micros : Micros
  pending : List Instr
  deriving DecidableEq, Repr

/-- No command of this part stops the machine: every rule gives an effect, an ignored event or a refusal reply,
all of which are next states. So there is no fault. -/
inductive Fault where
  deriving DecidableEq, Repr

/-- Why a step could be refused. -/
inductive Refusal where
  /-- A command with no meaning in the model yet. No arm of `exec` raises it; it is safe, since it stops the run. -/
  | notModelled (mnemonic : String)
  deriving DecidableEq, Repr

/-! ### The values after power-up -/

/-- R21. -/
def Ltk.reset : Ltk :=
  { loop := .unsynced, q := 0, movement := false, lastPitch := none, history := [], stall := none, slips := 0,
    resyncRequired := false, resyncPending := false, armed := true, windowOpen := false, recount := 0,
    overspeedArmed := true, revolution := 0 }

/-- R80, R81. -/
def Counters.zero : Counters := { noReads := 0, glitches := 0, launches := 0, missed := 0, early := 0, idleBeats := 0 }

/-- R81, R96, R149, R153. -/
def Lane.reset : Lane :=
  { mode := .absent, state := .absent, records := [], tickets := [], inflight := [], pausePending := false,
    overfillPending := false, overfillDue := false, leadMark := false, profile := 0, copy := Profile.default,
    adoptPending := false, counters := Counters.zero, launchesRev := 0, beltTime := 0 }

/-- R137; the flash's start is DESIGN CHOICE 0 (notes/assumptions/8.md, unsafe). -/
def Pace.reset : Pace := { beat := 0, active := 8, pending := 8, cue := .dark, flashFrom := 0 }

/-- R124. -/
def Share.reset : Share := { reload := 1024, counter := 1024, outstanding := 0 }

/-- R182. -/
def Link.reset : Link :=
  { planner := false, discharge := false, window := none, live := none, receiver := .hunting, queue := [],
    overflow := false, frameErrors := 0, overruns := 0 }

/-- The spec gives no levels at power-up: DESIGN CHOICE, every line clear (notes/assumptions/8.md, unsafe). -/
def Lines.reset : Lines :=
  { checkEye := false, lengthEye := Bank.fill 8 false, holdEye := Bank.fill 8 false, restartActive := false }

/-- The part after power-up (R21, R46, R61, R81, R96, R124, R137, R149, R182), with nothing waiting. The
microsecond counter's value is DESIGN CHOICE 0 (notes/assumptions/8.md, unsafe). -/
def State.reset : State :=
  { ltk := Ltk.reset, tmap := [], csm := { fRev := 0, fPrev := 0 },
    eal := { rotation := [], position := 0, shares := Bank.fill 8 Share.reset },
    lanes := Bank.fill 8 Lane.reset, pace := Bank.fill 8 Pace.reset,
    pst := { profiles := Bank.fill 16 Profile.default, geometry := none },
    links := Bank.fill 4 Link.reset, lines := Lines.reset, micros := 0, pending := [] }

end Sys2Proof.Machine
end

