-- ==== Sys2Proof/Machine/Flags.lean ====
section
/-! DEFINITION. Saturating counters, and the flags and outputs that are functions of what a block holds. -/

namespace Sys2Proof.Machine

/-- A 16-bit saturating counter raised by 1 (00_scope.md, Counters; R80, R163). -/
def raise16 (n : Nat) : Nat := min (n + 1) Config.counterTop

/-- R64: the wait-belt command is RUN in IDLE and RELEASING, and STOP in every other lane state. -/
def LaneState.beltRuns : LaneState → Bool
  | .idle => true
  | .releasing .. => true
  | .absent => false
  | .paused => false
  | .waiting => false
  | .tracking _ => false
  | .committed _ => false
  | .faulted _ => false

/-- R66, R128, R138: the five working states, IDLE to RELEASING. -/
def LaneState.working : LaneState → Bool
  | .idle => true
  | .waiting => true
  | .tracking _ => true
  | .committed _ => true
  | .releasing .. => true
  | .absent => false
  | .paused => false
  | .faulted _ => false

/-- R96: the lane state by name. -/
def LaneState.name : LaneState → LaneStateName
  | .absent => .absent
  | .paused => .paused
  | .idle => .idle
  | .waiting => .waiting
  | .tracking _ => .tracking
  | .committed _ => .committed
  | .releasing .. => .releasing
  | .faulted _ => .faulted

/-- R91: the launch solution, in TRACKING and COMMITTED. -/
def LaneState.solution? : LaneState → Option Solution
  | .tracking sol => some sol
  | .committed sol => some sol
  | .absent => none
  | .paused => none
  | .idle => none
  | .waiting => none
  | .releasing .. => none
  | .faulted _ => none

/-- R110: the fault reason, in FAULTED. -/
def LaneState.fault? : LaneState → Option FaultReason
  | .faulted r => some r
  | .absent => none
  | .paused => none
  | .idle => none
  | .waiting => none
  | .tracking _ => none
  | .committed _ => none
  | .releasing .. => none

/-- R64: the wait-belt command, `true` for RUN. -/
def Lane.waitBelt (ln : Lane) : Bool := ln.state.beltRuns

/-- R66: the feed permit is on in the five working states while the list holds fewer than 4 records. -/
def Lane.feedPermit (ln : Lane) : Bool := ln.state.working && decide (ln.records.length < Config.recordPlaces)

/-- R138: the cue lamp: dark, lit steadily, or flashing at so many hertz, lit at the reading given. -/
inductive Lamp where
  | off
  | steady
  | flashing (hertz : Nat) (litFrom : Micros)
  deriving DecidableEq, Repr

/-- R138: the lamp output follows the cue state. -/
def Pace.lamp (p : Pace) : Lamp :=
  match p.cue with
  | .dark => .off
  | .place => .steady
  | .wait => .flashing 1 p.flashFrom
  | .alert => .flashing 4 p.flashFrom

/-- R138: WAIT and ALERT flash. -/
def Cue.flashes : Cue → Bool
  | .wait => true
  | .alert => true
  | .dark => false
  | .place => false

/-- R23: the state of a tray by name. -/
def Tray.state : Tray → TrayState
  | .free _ => .free
  | .reserved .. => .reserved
  | .launched .. => .launched
  | .loaded .. => .loaded
  | .unverified _ => .unverified
  | .blocked .. => .blocked
  | .disabled => .disabled

/-- R24: the earmark, carried only while FREE. -/
def Tray.earmark : Tray → Option LaneId
  | .free e => e
  | .reserved .. => none
  | .launched .. => none
  | .loaded .. => none
  | .unverified _ => none
  | .blocked .. => none
  | .disabled => none

/-- R40: disable pending, in the four states that carry it. -/
def Tray.disablePending : Tray → Bool
  | .reserved _ _ d => d
  | .launched _ _ d => d
  | .loaded _ _ _ _ d => d
  | .unverified d => d
  | .free _ => false
  | .blocked .. => false
  | .disabled => false

/-- R27: the partner, in the three states that carry it. -/
def Tray.pair : Tray → Option Partner
  | .reserved _ p _ => p
  | .launched _ p _ => p
  | .loaded _ p _ _ _ => p
  | .unverified _ => none
  | .free _ => none
  | .blocked .. => none
  | .disabled => none

/-- R25: what a freed tray becomes: FREE with no earmark, or DISABLED where disable pending was set. -/
def Tray.freed (e : Tray) : Tray := if e.disablePending then .disabled else .free none

/-- R26: what a tray made UNVERIFIED becomes: disable pending is kept, everything else is removed. -/
def Tray.unverify (e : Tray) : Tray := .unverified e.disablePending

/-- R40, R41: the tray with disable pending set, in the four states that carry it. -/
def Tray.setPending : Tray → Tray
  | .reserved h p _ => .reserved h p true
  | .launched ld p _ => .launched ld p true
  | .loaded ld p k f _ => .loaded ld p k f true
  | .unverified _ => .unverified true
  | .free e => .free e
  | .blocked k c => .blocked k c
  | .disabled => .disabled

/-- R43: the tray with disable pending cleared. -/
def Tray.clearPending : Tray → Tray
  | .reserved h p _ => .reserved h p false
  | .launched ld p _ => .launched ld p false
  | .loaded ld p k f _ => .loaded ld p k f false
  | .unverified _ => .unverified false
  | .free e => .free e
  | .blocked k c => .blocked k c
  | .disabled => .disabled

end Sys2Proof.Machine
end

