-- ==== Sys2Proof/Machine/Ops.lean ====
section
/-! DEFINITION. The named operations that every block is written over: access to a lane's, a link's and a tray's
part of the state, positions on the ring, the order of turns, the passing of time, writing a tray entry (with
the count of earmarks that goes with it), and posting notices. -/

namespace Sys2Proof

/-! ### The order of turns (notes/assumptions/3.md) -/

/-- The orders a command brings; a missing one is empty. -/
def Moment.turn (m : Moment) (i : Nat) : List Agent := m.turns.getD i []

/-- `all` in the order in which its members are taken: those that `first` names, then the rest. -/
def takenOrder (first all : List Agent) : List Agent := (first.filter all.contains ++ all).eraseDups

/-- The lane of a Lane Sequencer's turn. -/
def Agent.lane? : Agent → Option LaneId
  | .ls l => some l
  | .csm => none
  | .pgen _ => none

/-- The order in which the lanes are taken where claims or flights of several lanes end in one change. -/
def Moment.laneOrder (m : Moment) : List LaneId :=
  (takenOrder (m.turn 0) (allLanes.map Agent.ls)).filterMap Agent.lane?

/-- The order at a pitch event: eight Lane Sequencers and the eight lanes' pacing (R3, R144). -/
def Moment.pitchOrder (m : Moment) : List Agent :=
  takenOrder (m.turn 1) (allLanes.flatMap (fun l => [Agent.ls l, Agent.pgen l]))

/-- The order at the k-th position offered as a passage: the Check Station Monitor and the eight Lane Sequencers
(R4, R60). -/
def Moment.passOrder (m : Moment) (k : Nat) : List Agent :=
  takenOrder (m.turn (k + 2)) (Agent.csm :: allLanes.map Agent.ls)

end Sys2Proof

namespace Sys2Proof.Machine

/-! ### Access -/

/-- A Lane Sequencer. -/
def State.lane (s : State) (l : LaneId) : Lane := s.lanes.get l

/-- The state with a lane replaced. -/
def State.setLane (s : State) (l : LaneId) (ln : Lane) : State := { s with lanes := s.lanes.set l ln }

/-- The state with a lane changed. -/
def State.modLane (s : State) (l : LaneId) (f : Lane → Lane) : State := s.setLane l (f (s.lane l))

/-- A lane's part of the Pace Generator. -/
def State.paceOf (s : State) (l : LaneId) : Pace := s.pace.get l

/-- The state with a lane's pacing changed. -/
def State.modPace (s : State) (l : LaneId) (f : Pace → Pace) : State :=
  { s with pace := s.pace.set l (f (s.paceOf l)) }

/-- A lane's part of the Earmark Allocator. -/
def State.share (s : State) (l : LaneId) : Share := s.eal.shares.get l

/-- The state with a lane's share changed. -/
def State.modShare (s : State) (l : LaneId) (f : Share → Share) : State :=
  { s with eal := { s.eal with shares := s.eal.shares.set l (f (s.share l)) } }

/-- A station link. -/
def State.link (s : State) (k : LinkId) : Link := s.links.get k

/-- The state with a link changed. -/
def State.modLink (s : State) (k : LinkId) (f : Link → Link) : State :=
  { s with links := s.links.set k (f (s.link k)) }

/-- The state with the Loop Tracker changed. -/
def State.modLtk (s : State) (f : Ltk → Ltk) : State := { s with ltk := f s.ltk }

/-- The record a profile number names. -/
def State.profile (s : State) (p : ProfileId) : Profile := s.pst.profiles.get p

/-- The entry of tray `t` (R23). The map has an entry for every tray below N; a number past its end, which no
rule reads, answers an UNVERIFIED tray. -/
def State.tray (s : State) (t : Nat) : Tray := s.tmap.getD t (.unverified false)

/-- The level of a lane's hold eye (R76). -/
def State.holdBlocked (s : State) (l : LaneId) : Bool := s.lines.holdEye.get l

/-! ### The ring (00_scope.md, Conventions) -/

/-- NC, the counts of one revolution. -/
def Geometry.nc (g : Geometry) : Nat := g.n * g.c

/-- A count reduced into 0 to NC−1. -/
def ringPos (nc : Nat) (x : Int) : Nat := (x % (nc : Int)).toNat

/-- The signed distance from `q` to `x`: (x − q) mod NC, read in −NC/2 to NC/2 − 1 (Conventions; R12, R92). The
one residue that has no reading there, half a turn where NC is odd, is read by the free value
`Config.oddHalfTurn` (notes/assumptions/10.md). -/
def signedDistance (nc q x : Nat) : Int :=
  let d := ringPos nc ((x : Int) - (q : Int))
  if 2 * d + 1 < nc ∨ (2 * d + 1 = nc ∧ Config.oddHalfTurn nc = true) then (d : Int) else (d : Int) - (nc : Int)

/-- ⌈a / b⌉. -/
def ceilDiv (a b : Nat) : Nat := (a + b - 1) / b

/-- A value below the range becomes its lowest, one above becomes its highest (Conventions, Clamped). -/
def clampTo (lo hi x : Nat) : Nat := max lo (min hi x)

/-! ### Time -/

/-- R65: a lane's belt-time advances while its wait belt is commanded to run. -/
def Lane.passTime (dt : Micros) (ln : Lane) : Lane :=
  if ln.waitBelt then { ln with beltTime := ln.beltTime + dt } else ln

/-- The time from the last command to this one passes: the microsecond counter comes to the command's reading,
and the belt-times of the running belts advance by the difference, mod 2^32 (R3, R65). -/
def State.clock (m : Moment) (s : State) : State :=
  { s with micros := m.reading, lanes := s.lanes.map (Lane.passTime (m.reading - s.micros)) }

/-! ### Tray entries and earmarks -/

/-- R24, R131: an earmark that leaves a tray lowers its lane's outstanding count by 1. -/
def State.lowerOutstanding (s : State) : Option LaneId → State
  | none => s
  | some l => s.modShare l (fun sh => { sh with outstanding := sh.outstanding - 1 })

/-- R127, R131: an earmark written into a tray raises its lane's outstanding count by 1. -/
def State.raiseOutstanding (s : State) : Option LaneId → State
  | none => s
  | some l => s.modShare l (fun sh => { sh with outstanding := sh.outstanding + 1 })

/-- An entry of the map is replaced. An earmark that the old entry carried leaves within the change, and one that
the new entry carries is counted (R24, R131). -/
def State.putTray (s : State) (t : Nat) (e : Tray) : State :=
  let s1 := (s.lowerOutstanding (s.tray t).earmark).raiseOutstanding e.earmark
  { s1 with tmap := s1.tmap.set t e }

/-- An entry without its earmark, where `gone` says the earmark of a lane on tray `t` goes. -/
def Tray.eraseEarmark (gone : Nat → LaneId → Bool) (t : Nat) : Tray → Tray
  | .free (some l) => if gone t l then .free none else .free (some l)
  | e => e

/-- Every entry of the map from index `t` on, with the earmarks that `gone` names removed. -/
def eraseEarmarks (gone : Nat → LaneId → Bool) : Nat → List Tray → List Tray
  | _, [] => []
  | t, e :: es => e.eraseEarmark gone t :: eraseEarmarks gone (t + 1) es

/-- How many trays carry an earmark for a lane (R131). -/
def countEarmarks (l : LaneId) (trays : List Tray) : Nat := trays.countP (fun e => e.earmark == some l)

/-- R10, R16: every earmark in the map is removed, and every lane's outstanding count falls to 0. -/
def State.clearEarmarks (s : State) : State :=
  { s with
    tmap := eraseEarmarks (fun _ _ => true) 0 s.tmap
    eal := { s.eal with shares := s.eal.shares.map (fun sh => { sh with outstanding := 0 }) } }

/-- R133: a lane's earmarks are all removed, and its outstanding count becomes 0. -/
def State.dropEarmarks (s : State) (l : LaneId) : State :=
  let s1 := { s with tmap := eraseEarmarks (fun _ k => k == l) 0 s.tmap }
  s1.modShare l (fun sh => { sh with outstanding := 0 })

/-- R132: the earmarks of lane `l` on trays t with (c − t) mod N within 1 and N div 2 lapse, and its outstanding
count falls by 1 for each. -/
def State.lapseEarmarks (s : State) (n : Nat) (l : LaneId) (c : Nat) : State :=
  let behind (t : Nat) (k : LaneId) : Bool :=
    let d := ringPos n ((c : Int) - (t : Int))
    k == l && decide (1 ≤ d ∧ d ≤ n / 2)
  let after := eraseEarmarks behind 0 s.tmap
  let lapsed := countEarmarks l s.tmap - countEarmarks l after
  let s1 := { s with tmap := after }
  s1.modShare l (fun sh => { sh with outstanding := sh.outstanding - lapsed })

/-! ### Changes and notices -/

/-- A change in the making: the state so far, and the notices that the change posts, in order. They are posted
when the change is complete (`Change.finish`), behind any reply the same change puts into a queue (R164, R174). -/
structure Change where
  st : State
  out : List Notice

/-- A change that has posted nothing yet. -/
def State.begin (s : State) : Change := ⟨s, []⟩

/-- A change of state that posts nothing. -/
def Change.modify (ch : Change) (f : State → State) : Change := { ch with st := f ch.st }

/-- A notice joins those the change posts. -/
def Change.post (ch : Change) (n : Notice) : Change := { ch with out := ch.out ++ [n] }

/-- R174: whom a notice is addressed to. -/
structure Audience where
  planner : Bool
  discharge : Bool
  anyLane : Bool
  lane : Option LaneId

/-- A loop event other than STATE, or a tray event: PLANNER and DISCHARGE (R9, R57, R174). -/
def Audience.both : Audience := { planner := true, discharge := true, anyLane := false, lane := none }

/-- The link whose window holds a lane (R174). -/
def Audience.window (l : LaneId) : Audience :=
  { planner := false, discharge := false, anyLane := false, lane := some l }

/-- R174: the table of notices by the roles they are addressed to. -/
def Notice.audience : Notice → Audience
  | .state .. => { planner := true, discharge := true, anyLane := true, lane := none }
  | .slip _ => .both
  | .markerMissing => .both
  | .positionUntrusted => .both
  | .resyncDone => .both
  | .overspeed _ => .both
  | .revolution _ => { planner := true, discharge := false, anyLane := false, lane := none }
  | .linkLapsed .. => { planner := true, discharge := false, anyLane := false, lane := none }
  | .load .. => { planner := false, discharge := true, anyLane := false, lane := none }
  | .ghost .. => .both
  | .reservedGhost .. => .both
  | .lost .. => .both
  | .recircLimit .. => .both
  | .unverified .. => .both
  | .resolved .. => .both
  | .launched l .. => .window l
  | .claimReleased l .. => .window l
  | .laneFault l .. => { planner := true, discharge := false, anyLane := false, lane := some l }
  | .ticketDropped l _ => .window l

/-- R165: a lane is held by a link when it lies within that link's window. -/
def Link.holds (k : Link) (l : LaneId) : Bool :=
  match k.window with
  | none => false
  | some w => decide (w.base ≤ l ∧ l ≤ w.limit)

/-- R174: a link that qualifies by more than one role receives the notice once. -/
def Link.hears (k : Link) (a : Audience) : Bool :=
  (a.planner && k.planner) || (a.discharge && k.discharge) || (a.anyLane && k.window.isSome) ||
    (match a.lane with
     | none => false
     | some l => k.holds l)

/-- R172: a notice joins while fewer than 32 places are in use; otherwise it is dropped and overflow pending is
set. -/
def Link.post (n : Notice) (k : Link) : Link :=
  if k.queue.length < Config.noticePlaces then { k with queue := k.queue ++ [.notice n] }
  else { k with overflow := true }

/-- R174: a notice is offered to every link that holds an addressed role or window at that moment. -/
def State.post (s : State) (n : Notice) : State :=
  { s with links := s.links.map (fun k => if k.hears n.audience then k.post n else k) }

/-- The change is complete: its notices are posted, in order. -/
def Change.finish (ch : Change) : State := ch.out.foldl State.post ch.st

/-- R98, R119: some link holds DISCHARGE. -/
def State.dischargeHeld (s : State) : Bool := allLinks.any (fun k => (s.link k).discharge)

end Sys2Proof.Machine
end

