-- ==== Sys2Proof/Machine/Calculator.lean ====
section
/-! DEFINITION. The Launch Calculator, stage by stage (chapter 5). All arithmetic is exact. -/

namespace Sys2Proof.Machine

/-- R5: P_avg, valid while the history holds four intervals. -/
def pAvg : List Nat → Option Nat
  | [i1, i2, i3, i4] => some ((i1 + i2 + i3 + i4 + 2) / 4)
  | _ => none

/-- R5: P_use, the larger of P_avg and 40,000 µs, while P_avg is valid. -/
def pUse (history : List Nat) : Option Nat := (pAvg history).map (max Config.fastestPitch)

/-- R85, stage 1: the centre offset h. -/
def centreOffset (c : Nat) : Span → Nat
  | .one => c / 2
  | .two => c

/-- R86, stage 2: the flight time F. -/
def flightTime (p : Profile) (length : Nat) : Nat := p.tXfer + (length * 500000 + p.vB / 2) / p.vB

/-- R87, stage 3: the lead R. -/
def leadCounts (f c period : Nat) : Nat := (f * c + period / 2) / period

/-- R87: the largest lead the part acts on. -/
def leadLimit (c : Nat) : Nat := Config.leadPitches * c

/-- R89, stage 4: X. -/
def candidateX (g : Geometry) (s guard q lead h : Nat) : Nat :=
  ringPos g.nc ((q : Int) + (guard * g.c : Nat) + (lead : Int) - (s : Int) - (h : Int))

/-- R89, stage 4: the candidate tray. -/
def candidate (g : Geometry) (s guard q lead h : Nat) : Nat := ceilDiv (candidateX g s guard q lead h) g.c % g.n

/-- R89: the TRAIL of a candidate pair. -/
def candidatePartner (n t : Nat) : Span → Option Nat
  | .one => none
  | .two => some ((t + 1) % n)

/-- R90, stage 6: the merge position M. -/
def mergePosition (g : Geometry) (s t h : Nat) : Nat := (s + t * g.c + h) % g.nc

/-- R90, stage 5: the launch point, M less the lead. -/
def launchPoint (g : Geometry) (m lead : Nat) : Nat := ringPos g.nc ((m : Int) - (lead : Int))

/-- R95: the reach point for a parcel: the candidate of stage 4, with the lead held at 16·C. -/
def reachPoint (g : Geometry) (s : Nat) (p : Profile) (q period : Nat) (span : Span) (length : Nat) : Nat :=
  let lead := min (leadCounts (flightTime p length) g.c period) (leadLimit g.c)
  candidate g s p.guard q lead (centreOffset g.c span)

/-- R92, stage 7: the verdicts. -/
inductive Verdict where
  | missed | commit | track
  deriving DecidableEq, Repr

/-- R92: the verdict that a distance gives. -/
def verdictOf (c : Nat) (d : Int) : Verdict :=
  if d < 0 then .missed else if d < (c : Int) then .commit else .track

/-- R91, R99: the launch solution written when a claim is taken. -/
def solutionAtClaim (g : Geometry) (s q t : Nat) (partner : Option Nat) (h lead : Nat) : Solution :=
  let m := mergePosition g s t h
  let launch := launchPoint g m lead
  { tray := t, partner := partner, offset := h, merge := m, lead := lead, launch := launch,
    dist := signedDistance g.nc q launch }

/-- R93: the solution recomputed with a new lead; tray, partner, h and M stay. -/
def Solution.recomputed (x : Solution) (g : Geometry) (q lead : Nat) : Solution :=
  let launch := launchPoint g x.merge lead
  { x with lead := lead, launch := launch, dist := signedDistance g.nc q launch }

end Sys2Proof.Machine
end

