-- ==== Sys2Proof/Machine/Layout.lean ====
section
/-! DEFINITION. The link layouts (R163, R183): the CRC, the frame envelope, the status byte, the tray record, and
the payload of every reply and notice. Choices that R183 leaves to inference are in notes/assumptions/20.md. -/

namespace Sys2Proof.Machine

/-! ### The CRC and the envelope -/

/-- R163: one shift of the CRC register. -/
def crcShift (r : BitVec 16) : BitVec 16 := if r.msb then (r <<< 1) ^^^ 0x1021#16 else r <<< 1

/-- R163: a byte is combined with the register's high 8 bits, and the register is shifted eight times. -/
def crcByte (r : BitVec 16) (b : Byte) : BitVec 16 :=
  Nat.repeat crcShift 8 (r ^^^ (b ++ 0#8))

/-- R163: the CRC over bytes, from 0xFFFF, with no reflection and no final value. -/
def crc16 (bytes : List Byte) : BitVec 16 := bytes.foldl crcByte 0xFFFF#16

/-- R183: the Length byte of a frame, the bytes from Kind through the last payload byte. -/
def lengthByte (payload : List Byte) : Byte := BitVec.ofNat 8 (payload.length + 2)

/-- R163: the CRC of a frame, over Length, Kind, Tag and payload. -/
def frameCrc (kind tag : Byte) (payload : List Byte) : BitVec 16 :=
  crc16 (lengthByte payload :: kind :: tag :: payload)

/-- R183, the frame envelope: start byte, Length, Kind, Tag, payload, CRC high byte first. -/
def frameBytes (kind tag : Byte) (payload : List Byte) : List Byte :=
  0xA5#8 :: lengthByte payload :: kind :: tag :: payload ++ bytesOfTwo (frameCrc kind tag payload)

/-! ### Kinds of field (R183, first table) -/

/-- A small number or an enumeration's code: 1 byte. -/
def u8 (n : Nat) : List Byte := [BitVec.ofNat 8 n]

/-- A tray figure or a 16-bit figure: 2 bytes. -/
def u16 (n : Nat) : List Byte := bytesOfTwo (BitVec.ofNat 16 n)

/-- A ring figure: 3 bytes. -/
def u24 (n : Nat) : List Byte := bytesOfThree (BitVec.ofNat 24 n)

/-- A 32-bit figure: 4 bytes. -/
def u32 (n : Nat) : List Byte := bytesOfFour (BitVec.ofNat 32 n)

/-- A signed distance: 3 bytes, two's complement. -/
def s24 (d : Int) : List Byte := bytesOfThree (BitVec.ofInt 24 d)

/-- A flag: 1 byte. -/
def flag (b : Bool) : List Byte := [if b then 1#8 else 0#8]

/-- A field that its rule names as present only in some cases: a presence byte, then the field at its full width,
of bytes 0 when absent. -/
def optional {α : Type} (width : Nat) (f : α → List Byte) : Option α → List Byte
  | none => 0#8 :: List.replicate width 0#8
  | some a => 1#8 :: f a

/-- A list of items: the number of items in one byte, then each item. -/
def listed {α : Type} (f : α → List Byte) (xs : List α) : List Byte := u8 xs.length ++ xs.flatMap f

/-- A lane's, link's or profile's number. -/
def number {n : Nat} (i : Fin n) : List Byte := u8 i.val

/-- A ticket: 4 bytes. -/
def ticketBytes (t : Ticket) : List Byte := bytesOfFour t

/-- A set of roles: bit 0 PLANNER, bit 1 DISCHARGE, bit 2 LANE. -/
def rolesByte (planner discharge lane : Bool) : List Byte :=
  u8 ((if planner then 1 else 0) + (if discharge then 2 else 0) + (if lane then 4 else 0))

/-! ### Codes (R183, second table) -/

/-- R183. -/
def LoopState.code : LoopState → Nat
  | .unsynced => 0
  | .stopped => 1
  | .crawling => 2
  | .running => 3

/-- R183. -/
def StateCause.code : StateCause → Nat
  | .motion => 0
  | .speed => 1
  | .stall => 2
  | .marker => 3
  | .escalation => 4
  | .resync => 5
  | .restart => 6
  | .geometry => 7

/-- R183. -/
def TrayState.code : TrayState → Nat
  | .free => 0
  | .reserved => 1
  | .launched => 2
  | .loaded => 3
  | .unverified => 4
  | .blocked => 5
  | .disabled => 6

/-- R183. -/
def LaneMode.code : LaneMode → Nat
  | .absent => 0
  | .auto => 1
  | .manual => 2

/-- R183. -/
def LaneStateName.code : LaneStateName → Nat
  | .absent => 0
  | .paused => 1
  | .idle => 2
  | .waiting => 3
  | .tracking => 4
  | .committed => 5
  | .releasing => 6
  | .faulted => 7

/-- R183. -/
def FaultReason.code : FaultReason → Nat
  | .jam => 0
  | .tooLong => 1
  | .overfill => 2
  | .unmeasured => 3

/-- R183. -/
def ReleaseReason.code : ReleaseReason → Nat
  | .missed => 0
  | .leadRange => 1
  | .paused => 2
  | .masterLost => 3
  | .loopNotRunning => 4
  | .slip => 5
  | .trayDisabled => 6
  | .trayBlocked => 7

/-- R183. -/
def UnverifiedReason.code : UnverifiedReason → Nat
  | .mergeUncleared => 0
  | .jam => 1
  | .slip => 2
  | .resync => 3

/-- R183. -/
def BlockCause.code : BlockCause → Nat
  | .ghost => 0
  | .reservedGhost => 1

/-- R183. -/
def PaceMode.code : PaceMode → Nat
  | .fixed => 0
  | .auto => 1

/-- R183. -/
def Cue.code : Cue → Nat
  | .dark => 0
  | .place => 1
  | .wait => 2
  | .alert => 3

/-- R183, the reply status byte: the reasons' codes. -/
def RefuseReason.code : RefuseReason → Nat
  | .notBound => 1
  | .wrongRole => 2
  | .outOfWindow => 3
  | .roleTaken => 4
  | .windowOverlap => 5
  | .busy => 6
  | .wrongState => 7
  | .full => 8
  | .stale => 9
  | .badValue => 10
  | .unknown => 11

/-- R183, the reply status byte: bit 7 refused, bit 6 clamped, bits 3 to 0 the reason. -/
def ReplyStatus.byte : ReplyStatus → Byte
  | .ok clamped => if clamped then 0x40#8 else 0x00#8
  | .refused r => BitVec.ofNat 8 (0x80 + r.code)

/-- R174: the Kind of each notice. -/
def Notice.kind : Notice → Byte
  | .state .. => 0x80
  | .slip _ => 0x81
  | .markerMissing => 0x82
  | .positionUntrusted => 0x83
  | .resyncDone => 0x84
  | .overspeed _ => 0x85
  | .revolution _ => 0x88
  | .linkLapsed .. => 0x89
  | .load .. => 0x90
  | .ghost .. => 0x91
  | .reservedGhost .. => 0x91
  | .lost .. => 0x92
  | .recircLimit .. => 0x93
  | .unverified .. => 0x94
  | .resolved .. => 0x95
  | .launched .. => 0xA0
  | .claimReleased .. => 0xA1
  | .laneFault .. => 0xA2
  | .ticketDropped .. => 0xA3

/-! ### The tray record (R183) -/

/-- R183, bits 56 to 55: no partner, LEAD or TRAIL. -/
def pairCode : Option Partner → Nat
  | none => 0
  | some ⟨_, .lead⟩ => 1
  | some ⟨_, .trail⟩ => 2

/-- R23: the ticket an entry holds. -/
def Tray.ticket : Tray → Option Ticket
  | .launched ld _ _ => ld.ticket
  | .loaded (some ld) _ _ _ _ => ld.ticket
  | _ => none

/-- R183, bits 52 to 49: the holder lane in RESERVED, LAUNCHED and LOADED, the earmark lane in FREE. -/
def Tray.laneField : Tray → Option LaneId
  | .free e => e
  | .reserved h _ _ => some h
  | .launched ld _ _ => some ld.holder
  | .loaded (some ld) _ _ _ _ => some ld.holder
  | _ => none

/-- R183, bits 48 to 45. -/
def Tray.countField : Tray → Nat
  | .loaded _ _ k _ _ => k
  | .blocked k _ => k
  | _ => 0

/-- R183, bit 44. -/
def Tray.flagField : Tray → Bool
  | .loaded _ _ _ f _ => f
  | .blocked _ c => c == .reservedGhost
  | _ => false

/-- R23: the length an entry holds. -/
def Tray.length : Tray → Option Nat
  | .launched ld _ _ => some ld.length
  | .loaded (some ld) _ _ _ _ => some ld.length
  | _ => none

/-- A lane's number as a 3-bit field, 0 when absent. -/
def laneBits : Option LaneId → BitVec 3
  | none => 0#3
  | some l => BitVec.ofNat 3 l.val

/-- R183: the tray record, 60 bits, bit 59 first. -/
def Tray.record (e : Tray) : BitVec 60 :=
  BitVec.ofNat 3 e.state.code ++ BitVec.ofNat 2 (pairCode e.pair) ++ BitVec.ofBool e.disablePending
    ++ BitVec.ofBool e.ticket.isSome ++ BitVec.ofBool e.laneField.isSome ++ laneBits e.laneField
    ++ BitVec.ofNat 4 e.countField ++ BitVec.ofBool e.flagField ++ BitVec.ofNat 12 (e.length.getD 0)
    ++ e.ticket.getD 0#32

/-- A number's `k` low bytes, most significant first. -/
def bytesOfNat (k n : Nat) : List Byte :=
  match k with
  | 0 => []
  | k + 1 => BitVec.ofNat 8 (n / 256 ^ k) :: bytesOfNat k n

/-- R183: records packed as one bit string, each directly after the one before, filled with zero bits to a whole
byte. -/
def packRecords (es : List Tray) : List Byte :=
  let bits := es.foldl (fun acc e => acc * 2 ^ 60 + e.record.toNat) 0
  let fill := (8 - 60 * es.length % 8) % 8
  bytesOfNat ((60 * es.length + fill) / 8) (bits * 2 ^ fill)

/-! ### Payloads -/

/-- R165, R166: a set of roles, and the window where LANE is held. -/
def bindingBytes (planner discharge : Bool) (window : Option Window) : List Byte :=
  rolesByte planner discharge window.isSome ++ optional 2 (fun w => number w.base ++ number w.limit) window

/-- The six lane counters in the order of R80. -/
def Counters.bytes (c : Counters) : List Byte :=
  u16 c.noReads ++ u16 c.glitches ++ u16 c.launches ++ u16 c.missed ++ u16 c.early ++ u16 c.idleBeats

/-- R45, R175: the seven counts in the order of the tray-state codes. -/
def TrayCounts.bytes (c : TrayCounts) : List Byte :=
  u16 c.free ++ u16 c.reserved ++ u16 c.launched ++ u16 c.loaded ++ u16 c.unverified ++ u16 c.blocked
    ++ u16 c.disabled

/-- R174: a notice's payload. -/
def Notice.payload : Notice → List Byte
  | .state old new cause => u8 old.code ++ u8 new.code ++ u8 cause.code
  | .slip d => s24 d
  | .markerMissing => []
  | .positionUntrusted => []
  | .resyncDone => []
  | .overspeed p => u32 p
  | .revolution r =>
    bytesOfTwo r.number ++ u8 r.loop.code ++ u16 r.fPrev ++ r.counts.bytes
      ++ r.lanes.toList.flatMap (fun f => u16 f.launchesRev ++ f.counters.bytes ++ u16 f.quota)
  | .linkLapsed k planner discharge window => number k ++ bindingBytes planner discharge window
  | .load t found e => u16 t ++ flag found ++ bytesOfNat 8 (e.record.toNat * 2 ^ 4)
  | .ghost t earmark => u16 t ++ u8 BlockCause.ghost.code ++ optional 1 number earmark
  | .reservedGhost t partner holder states =>
    u16 t ++ optional 2 u16 partner ++ u8 BlockCause.reservedGhost.code ++ number holder
      ++ listed (fun x => u8 x.code) states
  | .lost t partner holder ticket length recirc states =>
    u16 t ++ optional 2 u16 partner ++ optional 1 number holder ++ optional 4 ticketBytes ticket
      ++ optional 2 u16 length ++ u8 recirc ++ listed (fun x => u8 x.code) states
  | .recircLimit t partner holder ticket count =>
    u16 t ++ optional 2 u16 partner ++ optional 1 number holder ++ optional 4 ticketBytes ticket ++ u8 count
  | .unverified t partner reason l ticket =>
    u16 t ++ optional 2 u16 partner ++ u8 reason.code ++ number l ++ optional 4 ticketBytes ticket
  | .resolved t cause now => u16 t ++ u8 cause.code ++ u8 now.code
  | .launched l t partner ticket length =>
    number l ++ u16 t ++ optional 2 u16 partner ++ optional 4 ticketBytes ticket ++ u16 length
  | .claimReleased l reason t partner now =>
    number l ++ u8 reason.code ++ optional 2 u16 t ++ optional 2 u16 partner ++ u8 now.code
  | .laneFault l reason records headTicket trays removed =>
    number l ++ u8 reason.code ++ u8 records ++ optional 4 ticketBytes headTicket ++ listed u16 trays
      ++ optional 4 ticketBytes removed
  | .ticketDropped l ticket => number l ++ ticketBytes ticket

/-- R158: the geometry record's fields in the order of its table. -/
def Geometry.bytes (g : Geometry) : List Byte :=
  u16 g.n ++ u16 g.c ++ u24 g.sChk ++ g.merge.toList.flatMap u24 ++ u16 g.u ++ u8 g.slipTol ++ u32 g.pSlow
    ++ u16 g.tStall ++ u8 g.recircLimit

/-- R149: a profile's fields in the order of its table. -/
def Profile.bytes (p : Profile) : List Byte :=
  u32 p.tXfer ++ u16 p.vB ++ u8 p.guard ++ u16 p.holdClearMs ++ u16 p.minLength ++ u8 p.cap ++ u8 p.mode.code
    ++ u8 p.fixed ++ u8 p.iMin ++ u8 p.iMax

/-- R177: the STATUS report. -/
def StatusReport.bytes (r : StatusReport) : List Byte :=
  u8 r.loop.code ++ u24 r.q ++ u32 r.pAvg ++ bytesOfTwo r.revolution ++ u8 r.slips ++ flag r.resyncRequired
    ++ flag r.resyncPending ++ optional 4 (fun nc => u16 nc.1 ++ u16 nc.2) r.geometry
    ++ r.roles.toList.flatMap (fun x => bindingBytes x.1 x.2.1 x.2.2)
    ++ u8 r.placesInUse ++ flag r.overflowReported ++ u16 r.frameErrors ++ u16 r.overruns

/-- R67: a record's phase, ticket, length, disposition and span, each where present. -/
def ParcelRecord.bytes : ParcelRecord → List Byte
  | .measuring _ ticket =>
    u8 0 ++ optional 4 ticketBytes ticket ++ optional 2 u16 none ++ optional 1 u8 none ++ optional 1 u8 none
  | .onBelt p => u8 1 ++ optional 4 ticketBytes p.ticket ++ optional 2 u16 (some p.length) ++ dispositionBytes p
  | .atHold p => u8 2 ++ optional 4 ticketBytes p.ticket ++ optional 2 u16 (some p.length) ++ dispositionBytes p
where
  /-- The disposition, and the span where it is INDUCT. -/
  dispositionBytes (p : Measured) : List Byte :=
    match p.disposition with
    | .induct .one => optional 1 u8 (some 0) ++ optional 1 u8 (some 1)
    | .induct .two => optional 1 u8 (some 0) ++ optional 1 u8 (some 2)
    | .reject => optional 1 u8 (some 1) ++ optional 1 u8 none

/-- R116: an in-flight entry's tray, partner, ticket, M and hold-clear flag. -/
def InFlight.bytes (e : InFlight) : List Byte :=
  u16 e.tray ++ optional 2 u16 e.partner ++ optional 4 ticketBytes e.ticket ++ u24 e.merge ++ flag e.holdClear

/-- R116: the launch solution's tray, partner, R, launch point and M. -/
def Solution.bytes (x : Solution) : List Byte :=
  u16 x.tray ++ optional 2 u16 x.partner ++ u16 x.lead ++ u24 x.launch ++ u24 x.merge

/-- R116: the LANE_STATUS report. -/
def LaneReport.bytes (r : LaneReport) : List Byte :=
  u8 r.mode.code ++ u8 r.state.code ++ optional 1 (fun x => u8 (FaultReason.code x)) r.fault
    ++ flag r.pausePending ++ flag r.overfillDue ++ flag r.leadMark ++ flag r.adoptPending
    ++ flag r.overfillReported ++ number r.profile ++ listed ParcelRecord.bytes r.records ++ u8 r.tickets
    ++ listed InFlight.bytes r.inflight ++ optional 13 Solution.bytes r.solution ++ r.counters.bytes
    ++ u16 r.launchesRev ++ optional 1 (fun x => u8 (Cue.code x)) r.cue

/-- What a reply carries after its status byte. -/
def ReplyBody.bytes : ReplyBody → List Byte
  | .none => []
  | .echo bytes => bytes
  | .status r => r.bytes
  | .bindings planner discharge window => bindingBytes planner discharge window
  | .roles planner discharge holdsLane => rolesByte planner discharge holdsLane
  | .holder k => number k
  | .geometry g => g.bytes ++ u24 g.nc
  | .geometryField i => u8 i
  | .loop l => u8 l.code
  | .profileWritten i p => number i ++ p.bytes
  | .profileRead p bound => p.bytes ++ listed number bound
  | .profileBound l i pending => number l ++ number i ++ flag pending
  | .laneMode l mode state => number l ++ u8 mode.code ++ u8 state.code
  | .laneBusy state k => u8 state.code ++ u8 k
  | .rotation k weights => u8 k ++ weights.toList.flatMap u8
  | .quota l reload counter => number l ++ u16 reload ++ u16 counter
  | .pace l pending active mode => number l ++ u8 pending ++ u8 active ++ u8 mode.code
  | .disabled a b c => u16 a ++ u16 b ++ u16 c
  | .enabled a b => u16 a ++ u16 b
  | .resync l required pending => u8 l.code ++ flag required ++ flag pending
  | .map l q rev records => u8 l.code ++ u24 q ++ bytesOfTwo rev ++ packRecords (records.map Prod.snd)
  | .trays named => listed (fun x => u16 x.1 ++ u8 (TrayState.code x.2)) named
  | .tray t state => u16 t ++ u8 state.code
  | .present state => u8 state.code
  | .laneState state => u8 state.code
  | .paused state pending => u8 state.code ++ flag pending
  | .tickets k => u8 k
  | .lane r => r.bytes

/-- R164: a reply's payload begins with the status byte. -/
def Reply.payload (r : Reply) : List Byte := r.status.byte :: r.body.bytes

/-- R171, R183: the bytes of a frame the part sends. A reply's Kind is its request's plus 0x40; a notice carries
the Tag 0x00. -/
def OutFrame.wire : OutFrame → List Byte
  | .reply kind tag r => frameBytes (kind + 0x40#8) tag r.payload
  | .notice n => frameBytes n.kind 0x00#8 n.payload

end Sys2Proof.Machine
end

