-- ==== Sys2Proof/Machine/Operands.lean ====
section
/-! DEFINITION. The operand forms of the requests: lane and profile numbers, enumerations, and the fields of a
geometry record and of a profile, with their ranges (R149, R158) and clamping (R150). -/

namespace Sys2Proof.Machine

/-- A lane number; none above 7. -/
def laneOf (b : Byte) : Option LaneId := if h : b.toNat < 8 then some ⟨b.toNat, h⟩ else none

/-- A profile number; none above 15. -/
def profileOf (b : Byte) : Option ProfileId := if h : b.toNat < 16 then some ⟨b.toNat, h⟩ else none

/-- A lane mode by its code; none for any other byte (R180, R183). -/
def laneModeOf (b : Byte) : Option LaneMode :=
  if b = 0#8 then some .absent else if b = 1#8 then some .auto else if b = 2#8 then some .manual else none

/-- A pace mode by its code; none for any other byte (R150, R183). -/
def paceModeOf (b : Byte) : Option PaceMode :=
  if b = 0#8 then some .fixed else if b = 1#8 then some .auto else none

/-- R165: the roles. -/
inductive Role where
  | planner | discharge | lane
  deriving DecidableEq, Repr

/-- A role by its code; none for any other byte (R166, R183). -/
def roleOf (b : Byte) : Option Role :=
  if b = 0#8 then some .planner else if b = 1#8 then some .discharge else if b = 2#8 then some .lane else none

/-- R166: a lane window from its base and limit; none where the base exceeds the limit or the limit exceeds 7. -/
def windowOf (base limit : Byte) : Option Window :=
  match laneOf base, laneOf limit with
  | some b, some l => if b ≤ l then some ⟨b, l⟩ else none
  | _, _ => none

/-! ### The geometry record (R158, R159) -/

/-- The record that SET_GEOMETRY carries. -/
def GeometryWords.toGeometry (g : GeometryWords) : Geometry :=
  { n := g.n.toNat, c := g.c.toNat, sChk := g.sChk.toNat,
    merge := ⟨#v[g.s0.toNat, g.s1.toNat, g.s2.toNat, g.s3.toNat, g.s4.toNat, g.s5.toNat, g.s6.toNat, g.s7.toNat]⟩,
    u := g.u.toNat, slipTol := g.slipTol.toNat, pSlow := g.pSlow.toNat, tStall := g.tStall.toNat,
    recircLimit := g.recircLimit.toNat }

/-- Whether each field lies in its range, in the order of the table of R158 with S_0 to S_7 as eight places; the
station offsets are bounded by the N and C of the same record. -/
def Geometry.inRange (g : Geometry) : List Bool :=
  [decide (64 ≤ g.n ∧ g.n ≤ 1024), decide (16 ≤ g.c ∧ g.c ≤ 1024), decide (g.sChk < g.nc)]
    ++ g.merge.toList.map (fun x => decide (x < g.nc))
    ++ [decide (200 ≤ g.u ∧ g.u ≤ 1600), decide (g.slipTol ≤ 64 ∧ 4 * g.slipTol ≤ g.c),
        decide (200000 ≤ g.pSlow ∧ g.pSlow ≤ 4000000), decide (200 ≤ g.tStall ∧ g.tStall ≤ 10000),
        decide (1 ≤ g.recircLimit ∧ g.recircLimit ≤ 15)]

/-- R159 step 1: the place of the first field out of range, if there is one. -/
def Geometry.firstBad (g : Geometry) : Option Nat := g.inRange.findIdx? (fun ok => !ok)

/-! ### Profiles (R149, R150) -/

/-- R150: each field of WRITE_PROFILE clamped into its range, and then I_max raised to I_min where it is below. -/
def ProfileWords.clamped (w : ProfileWords) (mode : PaceMode) : Profile :=
  let lo := clampTo 1 255 w.iMin.toNat
  { tXfer := clampTo 50000 2000000 w.tXfer.toNat, vB := clampTo 300 3000 w.vB.toNat,
    guard := clampTo 1 8 w.guard.toNat, holdClearMs := clampTo 100 10000 w.holdClearMs.toNat,
    minLength := clampTo 20 300 w.minLength.toNat, cap := clampTo 1 8 w.cap.toNat, mode := mode,
    fixed := clampTo 1 255 w.fixed.toNat, iMin := lo, iMax := max lo (clampTo 1 255 w.iMax.toNat) }

/-- The record as WRITE_PROFILE carried it. -/
def ProfileWords.asSent (w : ProfileWords) (mode : PaceMode) : Profile :=
  { tXfer := w.tXfer.toNat, vB := w.vB.toNat, guard := w.guard.toNat, holdClearMs := w.holdClearMs.toNat,
    minLength := w.minLength.toNat, cap := w.cap.toNat, mode := mode, fixed := w.fixed.toNat,
    iMin := w.iMin.toNat, iMax := w.iMax.toNat }

end Sys2Proof.Machine
end

