-- ==== Sys2Proof/Machine/Pacing.lean ====
section
/-! DEFINITION. The Pace Generator (chapter 8): cues, beats, and the pace intervals, and a lane's adoption of its
bound profile (R146, R154). -/

namespace Sys2Proof.Machine

/-! ### The cue (R138, R139) -/

/-- The row of R138 that a lane stands in: the cue that a fixed row gives, or none in the beat-driven condition. -/
def cueRow (loop : LoopState) (ln : Lane) : Option Cue :=
  if ln.mode ≠ .manual then some .dark
  else if ln.state = .paused ∨ ln.state = .absent then some .dark
  else if ln.state.fault?.isSome then some .alert
  else if loop ≠ .running then some .wait
  else none

/-- The row in which a lane stands now. -/
def State.cueRow (s : State) (l : LaneId) : Option Cue := Machine.cueRow s.ltk.loop (s.lane l)

/-- A cue state is entered. The lamp's flash begins lit at each change into a flashing state (R138). -/
def Pace.showing (c : Cue) (now : Micros) (p : Pace) : Pace :=
  if p.cue = c then p
  else { p with cue := c, flashFrom := if c.flashes then now else p.flashFrom }

/-- R139: the cue after a change of lane state, loop state or mode, where `was` is the row before it. A fixed row
gives its cue; on entering the beat-driven condition the cue becomes WAIT; within it the cue stays. -/
def State.showCue (s : State) (l : LaneId) (was : Option Cue) : State :=
  match s.cueRow l with
  | some c => s.modPace l (Pace.showing c s.micros)
  | none =>
    match was with
    | none => s
    | some _ => s.modPace l (Pace.showing .wait s.micros)

/-- R139: every lane's cue after a change of loop state, where `was` is the loop state before it. -/
def State.showCues (s : State) (was : LoopState) : State :=
  allLanes.foldl (fun s l => s.showCue l (Machine.cueRow was (s.lane l))) s

/-! ### Beats (R140 to R143) -/

/-- R143: the pending interval is copied to the active one, and the beat counter becomes 0. -/
def Pace.start (p : Pace) : Pace := { p with active := p.pending, beat := 0 }

/-- R141: a beat. The counter becomes 0, the pending interval becomes active, and the cue is set by the parcel list
and by the cue before the beat; a call left unanswered is an idle beat. -/
def State.beatFalls (s : State) (l : LaneId) : State :=
  let p := s.paceOf l
  let room := decide ((s.lane l).records.length < Config.recordPlaces)
  let s1 := s.modPace l (fun p => (Pace.showing (if room then .place else .wait) s.micros) p.start)
  if p.cue = .place then
    s1.modLane l (fun ln =>
      { ln with counters := { ln.counters with idleBeats := raise16 ln.counters.idleBeats } })
  else s1

/-- R140: a pitch event at a lane's pacing. It counts where the lane is in the beat-driven condition and the event
carries RUNNING; a beat falls when the counter comes to the active interval or beyond. -/
def State.countPitch (s : State) (l : LaneId) (carried : LoopState) : State :=
  if carried = .running ∧ s.cueRow l = none then
    let p := s.paceOf l
    if p.active ≤ p.beat + 1 then s.beatFalls l
    else s.modPace l (fun p => { p with beat := p.beat + 1 })
  else s

/-- R142: a leading edge at the length eye of a MANUAL lane. In the beat-driven condition it answers PLACE, and
against WAIT it is an early placement; while the loop is not RUNNING it is an early placement too; in PAUSED,
FAULTED and ABSENT nothing is done. -/
def State.placement (s : State) (l : LaneId) : State :=
  let ln := s.lane l
  if ln.mode = .manual ∧ ln.state.working = true then
    if s.cueRow l = none ∧ (s.paceOf l).cue = .place then s.modPace l (Pace.showing .wait s.micros)
    else
      s.modLane l (fun ln => { ln with counters := { ln.counters with early := raise16 ln.counters.early } })
  else s

/-! ### Intervals (R137, R145 to R147) -/

/-- A value clamped into the bounds of a profile (R137). -/
def Profile.clampInterval (p : Profile) (x : Nat) : Nat := clampTo p.iMin p.iMax x

/-- R146: what an adoption that changes a pacing field does to a lane's intervals. -/
def Pace.adopt (old new : Profile) (p : Pace) : Pace :=
  if old.mode = new.mode ∧ old.fixed = new.fixed ∧ old.iMin = new.iMin ∧ old.iMax = new.iMax then p
  else
    { p with
      pending := new.clampInterval (match new.mode with | .fixed => new.fixed | .auto => p.pending)
      active := new.clampInterval p.active }

/-- R154, R156: a lane copies its bound record into its active copy and clears adoption pending, and the Pace
Generator sets its intervals from the new copy. -/
def State.adopt (s : State) (l : LaneId) : State :=
  let ln := s.lane l
  let new := s.profile ln.profile
  (s.modPace l (Pace.adopt ln.copy new)).setLane l { ln with copy := new, adoptPending := false }

/-- R147: how many slots of the rotation list name a lane. -/
def weightOf (rotation : List LaneId) (l : LaneId) : Nat := rotation.countP (fun k => k == l)

/-- R147: a lane's weight and the sum of the weights of the lanes not ABSENT; where no slot names a lane not
ABSENT, each of them has weight 1. -/
def State.paceWeights (s : State) (l : LaneId) : Nat × Nat :=
  let present (k : LaneId) : Bool := (s.lane k).mode ≠ .absent
  let w := s.eal.rotation.countP present
  if w = 0 then (1, allLanes.countP present) else (weightOf s.eal.rotation l, w)

/-- R147: the trays a lane can expect: its share of F_prev, at most its quota reload value. -/
def State.expectedTrays (s : State) (l : LaneId) : Nat :=
  let w := s.paceWeights l
  min (s.share l).reload (s.csm.fPrev * w.1 / w.2)

/-- R147: the recomputed pending interval. -/
def State.paceInterval (s : State) (n : Nat) (l : LaneId) : Nat :=
  let p := (s.lane l).copy
  let e := s.expectedTrays l
  if e = 0 then p.iMax else p.clampInterval (ceilDiv n e)

/-- R147: at a revolution event the pending interval of every lane that is not ABSENT and paces automatically is
recomputed. -/
def State.recomputePace (s : State) (n : Nat) : State :=
  allLanes.foldl
    (fun s l =>
      if (s.lane l).mode ≠ .absent ∧ (s.lane l).copy.mode = .auto then
        s.modPace l (fun p => { p with pending := s.paceInterval n l })
      else s) s

end Sys2Proof.Machine
end

