-- ==== Sys2Proof/Machine/LaneChange.lean ====
section
/-! DEFINITION. The change of lane state (R97), which every rule that moves a lane goes through, and the parcel
list's and in-flight list's small operations. -/

namespace Sys2Proof.Machine

/-- R75: what the block of the hold eye makes of the head of the parcel list: an ON_BELT head becomes AT_HOLD and
the lane goes to WAITING, an AT_HOLD head stays; a MEASURING head or an empty list is UNMEASURED. -/
def Lane.takeHold (ln : Lane) : Lane × LaneState :=
  match ln.records with
  | .onBelt p :: rest => ({ ln with records := .atHold p :: rest }, .waiting)
  | .atHold _ :: _ => (ln, .waiting)
  | .measuring _ _ :: _ => (ln, .faulted .unmeasured)
  | [] => (ln, .faulted .unmeasured)

/-- R97 substitution 1: an overfill fault due takes the place of IDLE, WAITING or PAUSED (R78). -/
def Lane.settleOverfill (ln : Lane) (target : LaneState) : Lane × LaneState :=
  if (target = .idle ∨ target = .waiting ∨ target = .paused) ∧ ln.overfillDue = true then
    ({ ln with overfillDue := false, pausePending := false }, .faulted .overfill)
  else (ln, target)

/-- R97 substitution 2: a pending pause takes the place of IDLE or WAITING (R114). -/
def Lane.settlePause (ln : Lane) (target : LaneState) : Lane × LaneState :=
  if (target = .idle ∨ target = .waiting) ∧ ln.pausePending = true then
    ({ ln with pausePending := false }, .paused)
  else (ln, target)

/-- R97 substitution 3: an entry to IDLE with the hold eye blocked takes the block at once (R75, R76). -/
def Lane.settleHold (blocked : Bool) (ln : Lane) (target : LaneState) : Lane × LaneState :=
  if target = .idle ∧ blocked = true then ln.takeHold else (ln, target)

/-- Whether the head is at hold with disposition REJECT. -/
def Lane.rejectAtHold (ln : Lane) : Bool :=
  match ln.records with
  | .atHold p :: _ => p.disposition == .reject
  | _ => false

/-- R97 substitution 4: a REJECT head at hold gives FAULTED(TOO_LONG) in place of WAITING. -/
def Lane.settleReject (ln : Lane) (target : LaneState) : Lane × LaneState :=
  if target = .waiting ∧ ln.rejectAtHold = true then (ln, .faulted .tooLong) else (ln, target)

/-- R97: the four substitutions in turn; the lane with its flags and records after them, and the state it enters. -/
def Lane.settle (blocked : Bool) (ln : Lane) (target : LaneState) : Lane × LaneState :=
  let a := ln.settleOverfill target
  let b := a.1.settlePause a.2
  let c := b.1.settleHold blocked b.2
  c.1.settleReject c.2

/-- R88, R97: the lead-range mark is cleared on entering IDLE, PAUSED, FAULTED or ABSENT. -/
def LaneState.clearsMark : LaneState → Bool
  | .idle => true
  | .paused => true
  | .faulted _ => true
  | .absent => true
  | .waiting => false
  | .tracking _ => false
  | .committed _ => false
  | .releasing .. => false

/-- R133: a lane drops its earmarks on entering PAUSED, FAULTED or ABSENT. -/
def LaneState.dropsEarmarks : LaneState → Bool
  | .paused => true
  | .faulted _ => true
  | .absent => true
  | .idle => false
  | .waiting => false
  | .tracking _ => false
  | .committed _ => false
  | .releasing .. => false

/-- R154, R156: whether an entry to `final` from `old` adopts: IDLE, PAUSED and WAITING do, but for a return to WAITING
from TRACKING or COMMITTED; and ABSENT does, in which a lane's copy always equals its record
(notes/assumptions/17.md). -/
def adopts (old final : LaneState) : Bool :=
  match final with
  | .idle => true
  | .paused => true
  | .absent => true
  | .waiting => old.solution?.isNone
  | _ => false

/-- R97: the entry of a lane into its final state, with everything that the entry brings but the notices. The
wait-belt command and the feed permit are functions of the state and the list, and the hold-clear timer, the
launch solution and the fault reason are carried by the state itself. The Pace Generator sees the entry last:
a MANUAL lane that leaves PAUSED starts its pace (R143), and the cue is shown (R139). -/
def State.enter (s : State) (l : LaneId) (final : LaneState) : State :=
  let before := s.lane l
  let was := s.cueRow l
  let s1 := s.modLane l (fun ln => { ln with state := final, leadMark := ln.leadMark && !final.clearsMark })
  let s2 := if final.dropsEarmarks then s1.dropEarmarks l else s1
  let s3 := if adopts before.state final then s2.adopt l else s2
  let s4 := if before.mode = .manual ∧ before.state = .paused ∧ final ≠ .paused then s3.modPace l Pace.start else s3
  s4.showCue l was

/-- The ticket of the head record, where there is a head and it carries one (R111). -/
def Lane.headTicket (ln : Lane) : Option Ticket :=
  match ln.records with
  | .measuring _ t :: _ => t
  | .onBelt p :: _ => p.ticket
  | .atHold p :: _ => p.ticket
  | [] => none

/-- R111: the LANE_FAULT notice of an entry to FAULTED, naming for JAM the trays made UNVERIFIED and the removed
entry's ticket. -/
def faultNotice (l : LaneId) (ln : Lane) (final : LaneState) (trays : List Nat) (removed : Option Ticket) :
    List Notice :=
  match final.fault? with
  | none => []
  | some r => [.laneFault l r ln.records.length ln.headTicket trays removed]

/-- R97: a change of a lane's state towards `target`. `pre` gives the notices of the rule that makes the change,
from the state it ends in (R109); the LANE_FAULT of an entry to FAULTED follows them (notes/assumptions/12.md),
naming the trays and the ticket that a JAM gives it (R111). -/
def Change.toStateNaming (ch : Change) (l : LaneId) (target : LaneState) (pre : LaneState → List Notice)
    (trays : List Nat) (removed : Option Ticket) : Change :=
  let r := (ch.st.lane l).settle (ch.st.holdBlocked l) target
  { st := (ch.st.setLane l r.1).enter l r.2
    out := ch.out ++ pre r.2 ++ faultNotice l r.1 r.2 trays removed }

/-- R97: a change of a lane's state whose fault, if it ends in one, names no tray. -/
def Change.toState (ch : Change) (l : LaneId) (target : LaneState)
    (pre : LaneState → List Notice := fun _ => []) : Change :=
  ch.toStateNaming l target pre [] none

/-! ### Lists of a lane -/

/-- R85: the measured INDUCT parcel that stands at hold, with its span. -/
def Lane.headAtHold (ln : Lane) : Option (Measured × Span) :=
  match ln.records with
  | .atHold p :: _ =>
    match p.disposition with
    | .induct sp => some (p, sp)
    | .reject => none
  | _ => none

/-- R104: the newest in-flight entry's hold-clear flag is set. -/
def markNewest : List InFlight → List InFlight
  | [] => []
  | [e] => [{ e with holdClear := true }]
  | e :: e' :: es => e :: markNewest (e' :: es)

/-- The trays an in-flight entry names, LEAD first. -/
def InFlight.trays (e : InFlight) : List Nat := e.tray :: e.partner.toList

/-- The trays a launch solution's claim holds, LEAD first. -/
def Solution.trays (x : Solution) : List Nat := x.tray :: x.partner.toList

end Sys2Proof.Machine
end

