-- ==== Sys2Proof/Machine/TrayMap.lean ====
section
/-! DEFINITION. The Tray Map's side of claims, fires, landings and discharge reports (chapter 2). -/

namespace Sys2Proof.Machine

/-- R29: a tray is claimable for a lane if it is FREE and carries no earmark or an earmark for that lane. -/
def Tray.claimableFor (l : LaneId) : Tray → Bool
  | .free none => true
  | .free (some k) => k == l
  | _ => false

/-- R25, R31: a RESERVED tray of a claim given up is freed. -/
def State.freeReserved (s : State) (t : Nat) : State :=
  match s.tray t with
  | .reserved h p d => s.putTray t (Tray.freed (.reserved h p d))
  | _ => s

/-- R29: a claim is taken: every named tray becomes RESERVED with the claiming lane as holder, and the members of a
pair name each other. -/
def State.reserve (s : State) (l : LaneId) (t : Nat) : Option Nat → State
  | none => s.putTray t (.reserved l none false)
  | some t' =>
    (s.putTray t (.reserved l (some ⟨t', .lead⟩) false)).putTray t' (.reserved l (some ⟨t, .trail⟩) false)

/-- R31, R107: a lane gives its claim up. The map frees each tray of the claim, the lane changes towards `target`
(R97), and a CLAIM_RELEASED notice with the reason is posted (R109). -/
def Change.releaseClaim (ch : Change) (l : LaneId) (reason : ReleaseReason) (target : LaneState) : Change :=
  match (ch.st.lane l).state.solution? with
  | none => ch
  | some x =>
    let freed := ch.modify (fun s => x.trays.foldl State.freeReserved s)
    freed.toState l target (fun final => [.claimReleased l reason (some x.tray) x.partner final.name])

/-- R32, R108: the map has revoked a lane's claim. The lane changes towards WAITING and a CLAIM_RELEASED notice
with the reason is posted. -/
def Change.revoked (ch : Change) (l : LaneId) (reason : ReleaseReason) : Change :=
  match (ch.st.lane l).state.solution? with
  | none => ch
  | some x => ch.toState l .waiting (fun final => [.claimReleased l reason (some x.tray) x.partner final.name])

/-- R10, R16: every lane in TRACKING or COMMITTED returns to WAITING, its claim released. -/
def Change.releaseClaims (ch : Change) (order : List LaneId) (reason : ReleaseReason) : Change :=
  order.foldl (fun ch l => ch.releaseClaim l reason .waiting) ch

/-- R33: a fire's tray goes from RESERVED to LAUNCHED with the parcel's length and ticket. -/
def State.launchTray (load : LaneLoad) (s : State) (t : Nat) : State :=
  match s.tray t with
  | .reserved _ p d => s.putTray t (.launched load p d)
  | _ => s

/-- R34: a landing with hold clear loads a LAUNCHED tray. -/
def State.loadTray (s : State) (t : Nat) : State :=
  match s.tray t with
  | .launched ld p d => s.putTray t (.loaded (some ld) p 0 true d)
  | _ => s

/-- R26: a LAUNCHED tray is made UNVERIFIED. -/
def State.unverifyLaunched (s : State) (t : Nat) : State :=
  match s.tray t with
  | .launched ld p d => s.putTray t (Tray.unverify (.launched ld p d))
  | _ => s

/-- R26, R35: a launch of lane `l` ends with its trays UNVERIFIED, and one UNVERIFIED tray event names them. -/
def Change.endUnverified (ch : Change) (l : LaneId) (reason : UnverifiedReason) (e : InFlight) : Change :=
  (ch.modify (fun s => e.trays.foldl State.unverifyLaunched s)).post
    (.unverified e.tray e.partner reason l e.ticket)

/-- R16, R17, R19, R35: every entry of a lane's in-flight list is resolved. That they are resolved, and their UNVERIFIED
events posted, oldest first is the model's choice, no rule giving an order (notes/assumptions/34.md). -/
def Change.resolveFlights (reason : UnverifiedReason) (ch : Change) (l : LaneId) : Change :=
  ((ch.st.lane l).inflight.foldl (fun ch e => ch.endUnverified l reason e) ch).modify
    (fun s => s.modLane l (fun ln => { ln with inflight := [] }))

/-- R34, R106: an in-flight entry lands. With its hold-clear flag set its trays are LOADED and a LOAD notice names
the tray (the LEAD of a pair); with the flag clear they are UNVERIFIED. -/
def Change.land (ch : Change) (l : LaneId) (e : InFlight) : Change :=
  if e.holdClear then
    let loaded := ch.modify (fun s => e.trays.foldl State.loadTray s)
    loaded.post (.load e.tray false (loaded.st.tray e.tray))
  else ch.endUnverified l .mergeUncleared e

/-- R106: entries from the oldest on are resolved while their merge position lies at or behind Q; the rest stay. -/
def Change.landBehind (nc q : Nat) (l : LaneId) : List InFlight → Change → Change
  | [], ch => ch.modify (fun s => s.modLane l (fun ln => { ln with inflight := [] }))
  | e :: es, ch =>
    if signedDistance nc q e.merge ≤ 0 then Change.landBehind nc q l es (ch.land l e)
    else ch.modify (fun s => s.modLane l (fun ln => { ln with inflight := e :: es }))

/-- R106: Q offered at a lane's in-flight list. When it is the merge position of the oldest entry, that entry is
removed and landed, and the entries behind it that Q has reached or passed are resolved with it. -/
def Change.mergePassage (ch : Change) (nc q : Nat) (l : LaneId) : Change :=
  match (ch.st.lane l).inflight with
  | [] => ch
  | e :: es => if e.merge = q then Change.landBehind nc q l es (ch.land l e) else ch

/-- The two members of the pair of tray `t`, LEAD first, or the tray alone. -/
def pairTrays (t : Nat) : Option Partner → List Nat
  | none => [t]
  | some ⟨t', .lead⟩ => [t, t']
  | some ⟨t', .trail⟩ => [t', t]

/-- R45: the trays of the map counted by state. -/
def countTrays (trays : List Tray) : TrayCounts :=
  let k (st : TrayState) : Nat := trays.countP (fun e => e.state == st)
  { free := k .free, reserved := k .reserved, launched := k .launched, loaded := k .loaded,
    unverified := k .unverified, blocked := k .blocked, disabled := k .disabled }

end Sys2Proof.Machine
end

