-- ==== Sys2Proof/Machine/Sequencer.lean ====
section
/-! DEFINITION. The Lane Sequencer (chapter 6): its work at a pitch event, the fire, the clearing of the hold eye,
the hold-clear time-out, and the pause. -/

namespace Sys2Proof.Machine

/-- R3: what a pitch event carries: Q, the loop state, whether the recount span is above 0, and P_use while the
loop is RUNNING. -/
structure PitchEvent where
  q : Nat
  loop : LoopState
  recounting : Bool
  period : Option Nat
  deriving DecidableEq, Repr

/-! ### Fire and hold clear -/

/-- R104: the clearing of the hold eye in RELEASING: the newest entry's flag is set, and the lane changes towards
IDLE. In any other state nothing is done. -/
def Change.holdClear (ch : Change) (l : LaneId) : Change :=
  match (ch.st.lane l).state with
  | .releasing _ _ =>
    (ch.modify (fun s => s.modLane l (fun ln => { ln with inflight := markNewest ln.inflight }))).toState l .idle
  | _ => ch

/-- R101: the lane's own part of a fire: the entry is appended with its flag clear, the head record is removed, and
both launch counts rise by 1. -/
def Lane.fired (ln : Lane) (entry : InFlight) : Lane :=
  { ln with
    inflight := ln.inflight ++ [entry]
    records := ln.records.tail
    counters := { ln.counters with launches := raise16 ln.counters.launches }
    launchesRev := raise16 ln.launchesRev }

/-- R101, R102: a COMMITTED lane fires. Its trays go to LAUNCHED, an in-flight entry is appended, the head record
leaves, the launch counts rise, a LAUNCHED notice is posted, and the lane goes to RELEASING with its hold-clear
timer started. A hold eye already clear is taken as clearing at the entry to RELEASING (R104). -/
def Change.fire (ch : Change) (l : LaneId) : Change :=
  let ln := ch.st.lane l
  match ln.state, ln.records with
  | .committed x, .atHold p :: _ =>
    let load : LaneLoad := { holder := l, ticket := p.ticket, length := p.length }
    let entry : InFlight :=
      { tray := x.tray, partner := x.partner, ticket := p.ticket, length := p.length, merge := x.merge,
        holdClear := false }
    let launched := ch.modify (fun s => (x.trays.foldl (State.launchTray load) s).modLane l (Lane.fired · entry))
    let posted := launched.post (.launched l x.tray x.partner p.ticket p.length)
    let released := posted.toState l (.releasing posted.st.micros ln.copy.holdClearMs)
    if released.st.holdBlocked l then released else released.holdClear l
  | _, _ => ch

/-- R105: the hold-clear timer expires. In RELEASING the newest entry, if its flag is clear, is removed and its trays
become UNVERIFIED with reason JAM; pause pending is cleared; and the lane faults JAM, its LANE_FAULT naming the
trays. In any other state the timer is idle and nothing expires. -/
def Change.jam (ch : Change) (l : LaneId) : Change :=
  let ln := ch.st.lane l
  match ln.state with
  | .releasing _ _ =>
    let cleared := ch.modify (fun s => s.modLane l (fun ln => { ln with pausePending := false }))
    match ln.inflight.getLast? with
    | some e =>
      if e.holdClear then cleared.toState l (.faulted .jam)
      else
        let removed := cleared.modify (fun s => s.modLane l (fun ln => { ln with inflight := ln.inflight.dropLast }))
        (removed.endUnverified l .jam e).toStateNaming l (.faulted .jam) (fun _ => []) e.trays e.ticket
    | none => cleared.toState l (.faulted .jam)
  | _ => ch

/-! ### The pitch event at a lane -/

/-- The lane's merge point S_l. -/
def Geometry.mergeOf (g : Geometry) (l : LaneId) : Nat := g.merge.get l

/-- R95, R132: a lane's reach point for a parcel is handed to the Earmark Allocator, and the lane's earmarks behind
it lapse. -/
def State.handReach (s : State) (g : Geometry) (l : LaneId) (q period : Nat) (span : Span) (length : Nat) : State :=
  s.lapseEarmarks g.n l (reachPoint g (g.mergeOf l) (s.lane l).copy q period span length)

/-- R29, R99: the candidate is offered to the map. Where the loop is RUNNING and every named tray is claimable the
claim is taken, the launch solution written and the lane goes to TRACKING; otherwise nothing changes. -/
def Change.offerClaim (ch : Change) (g : Geometry) (l : LaneId) (q : Nat) (span : Span) (lead : Nat) : Change :=
  let h := centreOffset g.c span
  let t := candidate g (g.mergeOf l) (ch.st.lane l).copy.guard q lead h
  let partner := candidatePartner g.n t span
  if ch.st.ltk.loop = .running ∧ ((t :: partner.toList).all fun x => (ch.st.tray x).claimableFor l) = true then
    (ch.modify (fun s => s.reserve l t partner)).toState l
      (.tracking (solutionAtClaim g (g.mergeOf l) q t partner h lead))
  else ch

/-- R88: the lead-range mark set or cleared. -/
def Change.setMark (ch : Change) (l : LaneId) (mark : Bool) : Change :=
  ch.modify (fun s => s.modLane l (fun ln => { ln with leadMark := mark }))

/-- R88: the lead-range check of a WAITING lane; the notice names no tray. -/
def Change.waitingLead (ch : Change) (g : Geometry) (l : LaneId) (lead : Nat) : Change :=
  if lead ≤ leadLimit g.c then ch.setMark l false
  else if (ch.st.lane l).leadMark then ch
  else (ch.setMark l true).post (.claimReleased l .leadRange none none .waiting)

/-- R98: a WAITING lane at a RUNNING pitch event: the lead-range check, the reach point, and the claim where its
conditions hold. -/
def Change.waitingPitch (ch : Change) (g : Geometry) (l : LaneId) (ev : PitchEvent) (period : Nat) : Change :=
  let ln := ch.st.lane l
  match ln.headAtHold with
  | none => ch
  | some (p, span) =>
    let lead := leadCounts (flightTime ln.copy p.length) g.c period
    let reached := (ch.waitingLead g l lead).modify (fun s => s.handReach g l ev.q period span p.length)
    if ch.st.dischargeHeld = true ∧ ln.inflight.length < Config.flightPlaces ∧ ev.recounting = false
        ∧ lead ≤ leadLimit g.c then
      reached.offerClaim g l ev.q span lead
    else reached

/-- R100: a verdict of MISSED: the missed-windows counter rises by 1 and the claim is released. -/
def Change.missed (ch : Change) (l : LaneId) : Change :=
  (ch.modify (fun s => s.modLane l (fun ln =>
    { ln with counters := { ln.counters with missed := raise16 ln.counters.missed } }))).releaseClaim l .missed .waiting

/-- R92, R100: a TRACKING lane acts on the verdict of its recomputed solution. -/
def Change.onVerdict (ch : Change) (g : Geometry) (l : LaneId) (x : Solution) : Change :=
  match verdictOf g.c x.dist with
  | .missed => ch.missed l
  | .track => ch.toState l (.tracking x)
  | .commit => if x.dist = 0 then (ch.toState l (.committed x)).fire l else ch.toState l (.committed x)

/-- R93, R100: a TRACKING lane at a RUNNING pitch event: the reach point for the head, the lead-range check, and the
recomputed solution. -/
def Change.trackingPitch (ch : Change) (g : Geometry) (l : LaneId) (x : Solution) (ev : PitchEvent) (period : Nat) :
    Change :=
  let ln := ch.st.lane l
  match ln.headAtHold with
  | none => ch
  | some (p, span) =>
    let lead := leadCounts (flightTime ln.copy p.length) g.c period
    let reached := ch.modify (fun s => s.handReach g l ev.q period span p.length)
    if leadLimit g.c < lead then (reached.setMark l true).releaseClaim l .leadRange .waiting
    else (reached.setMark l false).onVerdict g l (x.recomputed g ev.q lead)

/-- R84: a pitch event at a lane. The Calculator runs at an event that carries RUNNING, and so P_use, for a lane in
a working state. -/
def Change.lanePitch (ch : Change) (g : Geometry) (ev : PitchEvent) (l : LaneId) : Change :=
  match ev.period with
  | none => ch
  | some period =>
    match (ch.st.lane l).state with
    | .idle => ch.modify (fun s => s.handReach g l ev.q period .one 0)
    | .releasing _ _ => ch.modify (fun s => s.handReach g l ev.q period .one 0)
    | .waiting => ch.waitingPitch g l ev period
    | .tracking x => ch.trackingPitch g l x ev period
    | .committed _ =>
      match (ch.st.lane l).headAtHold with
      | none => ch
      | some (p, span) => ch.modify (fun s => s.handReach g l ev.q period span p.length)
    | .absent => ch
    | .paused => ch
    | .faulted _ => ch

/-- R4, R101, R106: a position offered to a lane: a COMMITTED lane fires at its launch point, and then the oldest
in-flight entry lands at its merge position (notes/assumptions/13.md). -/
def Change.lanePassage (ch : Change) (g : Geometry) (q : Nat) (l : LaneId) : Change :=
  let fired :=
    match (ch.st.lane l).state with
    | .committed x => if x.launch = q then ch.fire l else ch
    | _ => ch
  fired.mergePassage g.nc q l

/-! ### Pause and loss of the lane's link -/

/-- R113, R118: a lane is paused. IDLE and WAITING go to PAUSED; TRACKING releases its claim with the reason and goes
to PAUSED; COMMITTED and RELEASING set pause pending; PAUSED, FAULTED and ABSENT are not touched. -/
def Change.pauseLane (ch : Change) (reason : ReleaseReason) (l : LaneId) : Change :=
  match (ch.st.lane l).state with
  | .idle => ch.toState l .paused
  | .waiting => ch.toState l .paused
  | .tracking _ => ch.releaseClaim l reason .paused
  | .committed _ => ch.modify (fun s => s.modLane l (fun ln => { ln with pausePending := true }))
  | .releasing _ _ => ch.modify (fun s => s.modLane l (fun ln => { ln with pausePending := true }))
  | .paused => ch
  | .faulted _ => ch
  | .absent => ch

end Sys2Proof.Machine
end

