-- ==== Sys2Proof/Machine/Links.lean ====
section
/-! DEFINITION. The Station Links (chapter 10): how a request is taken (R164, R165), the receiver's frame errors,
and the loss of a link's roles. -/

namespace Sys2Proof.Machine

/-! ### Roles -/

/-- R165: the link holds at least one role. -/
def Link.bound (k : Link) : Bool := k.planner || k.discharge || k.window.isSome

/-- R165, the dispatch table: whether a link holds a role that a request is admitted from. -/
def Link.admits (k : Link) : RequestKind → Bool
  | .ping => k.bound
  | .status => k.bound
  | .bind => true
  | .unbind => k.bound
  | .setGeometry => k.planner
  | .writeProfile => k.planner
  | .readProfile => k.planner
  | .bindProfile => k.planner
  | .setLaneMode => k.planner
  | .setRotation => k.planner
  | .setQuota => k.planner
  | .setPace => k.planner || k.window.isSome
  | .disableTrays => k.planner
  | .enableTrays => k.planner
  | .resync => k.planner
  | .restart => k.planner
  | .mapRead => k.planner || k.discharge
  | .discharged => k.discharge
  | .clearBlock => k.discharge || k.planner
  | .arm => k.window.isSome
  | .pause => k.window.isSome
  | .clear => k.window.isSome
  | .announce => k.window.isSome
  | .laneStatus => k.window.isSome

/-- R164 step 6: a lane number lies in the link's window; one above 7 lies in none. -/
def Link.holdsNumber (k : Link) (lane : Byte) : Bool :=
  match laneOf lane with
  | none => false
  | some l => k.holds l

/-- R164 step 6: whether the window check fails: a lane request that names a lane outside the window. SET_PACE from
a link that holds PLANNER is admitted for every lane. -/
def Link.outOfWindow (k : Link) (kind : RequestKind) : Option Byte → Bool
  | none => false
  | some lane => !k.holdsNumber lane && !(kind == .setPace && k.planner)

/-- R164 steps 3 to 6: the reason for which a request is refused before it reaches its owner, if there is one.
`formOk` says that the payload has the length its fields call for; `lane` is the lane a lane request names. -/
def Link.gate (k : Link) (kind : RequestKind) (formOk : Bool) (lane : Option Byte) : Option RefuseReason :=
  if kind ≠ .bind ∧ k.bound = false then some .notBound
  else if k.admits kind = false then some .wrongRole
  else if formOk = false then some .badValue
  else if k.outOfWindow kind lane = true then some .outOfWindow
  else none

/-! ### Taking a request -/

/-- R163, R169: a valid frame restarts the link's live timer where it is running. -/
def Link.restartLive (now : Micros) (k : Link) : Link := { k with live := k.live.map (fun _ => now) }

/-- R164 step 1: the request is discarded, and the overrun counter rises by 1. -/
def Link.overrun (k : Link) : Link := { k with overruns := raise16 k.overruns }

/-- R164, R171: a reply joins the end of the queue. -/
def Link.reply (kind tag : Byte) (r : Reply) (k : Link) : Link := { k with queue := k.queue ++ [.reply kind tag r] }

/-- A reply that refuses, with what the refusing rule names. -/
def Reply.refuse (reason : RefuseReason) (body : ReplyBody := .none) : Reply := ⟨.refused reason, body⟩

/-- An OK reply with no value clamped. -/
def Reply.okay (body : ReplyBody := .none) : Reply := ⟨.ok false, body⟩

/-- R164: a reply is placed and the notices of the change join behind it. -/
def Change.answer (ch : Change) (link : LinkId) (kind tag : Byte) (r : Reply) : State :=
  (ch.modify (fun s => s.modLink link (Link.reply kind tag r))).finish

/-- R164: a request refused before it reaches an owner. -/
def State.refuse (s : State) (link : LinkId) (kind tag : Byte) (reason : RefuseReason) : State :=
  s.begin.answer link kind tag (.refuse reason)

/-- R163, R164 step 1: a valid frame restarts the live timer, and where the queue has room the request is taken on
by `rest`; otherwise it is discarded. -/
def State.takeIn (s : State) (m : Moment) (link : LinkId) (rest : State → State) : State :=
  let s1 := (s.clock m).modLink link (Link.restartLive m.reading)
  if (s1.link link).queue.length < Config.queuePlaces then rest s1 else s1.modLink link Link.overrun

/-- R164: a request of the dispatch table, taken through its seven steps; `owner` is step 7, the rule of the block
that owns the state it touches. -/
def State.request (s : State) (m : Moment) (link : LinkId) (tag : Byte) (kind : RequestKind) (lane : Option Byte)
    (owner : State → Reply × Change) : State :=
  s.takeIn m link fun s1 =>
    match (s1.link link).gate kind true lane with
    | some reason => s1.refuse link kind.code tag reason
    | none => (owner s1).2.answer link kind.code tag (owner s1).1

/-- R164 step 2: a Kind that names no request of the dispatch table. -/
def State.unknownRequest (s : State) (m : Moment) (link : LinkId) (kind tag : Byte) : State :=
  s.takeIn m link fun s1 => s1.refuse link kind tag .unknown

/-- R164 steps 3 to 5: a request whose payload has the wrong length. -/
def State.badForm (s : State) (m : Moment) (link : LinkId) (tag : Byte) (kind : RequestKind) : State :=
  s.takeIn m link fun s1 => s1.refuse link kind.code tag (((s1.link link).gate kind false none).getD .badValue)

/-! ### Frame errors -/

/-- R162, R163: a frame is discarded: the frame-error counter rises by 1 and the receiver returns to hunting. -/
def Link.frameError (k : Link) : Link := { k with frameErrors := raise16 k.frameErrors, receiver := .hunting }

/-- R162: a framing error ends the frame being collected; while hunting nothing is counted. -/
def Link.framingError (k : Link) : Link :=
  match k.receiver with
  | .hunting => k
  | .collecting _ => k.frameError

/-! ### Loss of roles (R118, R168) -/

/-- R168: the lanes of a lost window are paused, as R118 states, in the order of the command. -/
def Change.loseLanes (ch : Change) (order : List LaneId) (lost : LaneId → Bool) : Change :=
  (order.filter lost).foldl (fun ch l => ch.pauseLane .masterLost l) ch

/-- R167, R169: every role of a link and its window are dropped, and its live timer goes idle. -/
def Link.unbound (k : Link) : Link := { k with planner := false, discharge := false, window := none, live := none }

/-- R167 to R169: a link drops its roles, with the effects of R168. -/
def Change.dropRoles (ch : Change) (link : LinkId) (order : List LaneId) : Change :=
  let old := ch.st.link link
  (ch.modify (fun s => s.modLink link Link.unbound)).loseLanes order old.holds

/-- R166: the first link other than `link` for which a test holds. -/
def State.otherLink (s : State) (link : LinkId) (p : Link → Bool) : Option LinkId :=
  allLinks.find? (fun k => k ≠ link && p (s.link k))

end Sys2Proof.Machine
end

