-- ==== Sys2Proof/Machine/Earmarks.lean ====
section
/-! DEFINITION. The Earmark Allocator's walk and quotas (chapter 7). -/

namespace Sys2Proof.Machine

/-- R128: a lane named by a slot is eligible for a tray. -/
def State.eligible (s : State) (l : LaneId) : Bool :=
  let ln := s.lane l
  let sh := s.share l
  decide (ln.mode ≠ .absent) && ln.state.working && !ln.records.isEmpty && decide (0 < sh.counter)
    && decide (sh.outstanding < ln.copy.cap)

/-- R127: the slots in the order of a walk, from the rotation position round to the slot before it. -/
def Eal.walkSlots (e : Eal) : List Nat :=
  (List.range e.rotation.length).map (fun i => (e.position + i) % e.rotation.length)

/-- R127: the first slot of the walk whose lane is eligible, with that lane. -/
def State.walk (s : State) : Option (Nat × LaneId) :=
  s.eal.walkSlots.findSome? (fun i =>
    match s.eal.rotation[i]? with
    | none => none
    | some l => if s.eligible l then some (i, l) else none)

/-- R127: a tray is granted to the lane of slot `i`: the earmark is written, the quota counter falls by 1, the
outstanding count rises by 1 (with the entry, `putTray`), and the position moves to the slot after. -/
def State.grant (s : State) (t i : Nat) (l : LaneId) : State :=
  let s1 := (s.putTray t (.free (some l))).modShare l (fun sh => { sh with counter := sh.counter - 1 })
  { s1 with eal := { s1.eal with position := (i + 1) % s1.eal.rotation.length } }

/-- R127: a tray is handed over to the Allocator. A tray that is not FREE, or carries an earmark, is not walked
for; a walk that finds no eligible lane leaves the tray open. -/
def State.handOver (s : State) (t : Nat) : State :=
  match s.tray t with
  | .free none =>
    match s.walk with
    | none => s
    | some (i, l) => s.grant t i l
  | _ => s

/-- R129: every quota counter is set to its lane's reload value. -/
def State.reloadQuotas (s : State) : State :=
  { s with eal := { s.eal with shares := s.eal.shares.map (fun sh => { sh with counter := sh.reload }) } }

/-- R135: a restart or an accepted geometry record: the list and reload values are kept, the position becomes 0,
the counters are reloaded and the outstanding counts are 0. -/
def Eal.restarted (e : Eal) : Eal :=
  { e with position := 0, shares := e.shares.map (fun sh => { sh with counter := sh.reload, outstanding := 0 }) }

end Sys2Proof.Machine
end

