-- ==== Sys2Proof/Machine/CheckStation.lean ====
section
/-! DEFINITION. The Check Station Monitor (chapter 3): the sample of a tray at its centre passage. -/

namespace Sys2Proof.Machine

/-- R58: a tray is confirmed free and empty: F_rev rises by 1, and stays at N once there. -/
def State.tally (s : State) (n : Nat) : State := { s with csm := { s.csm with fRev := min (s.csm.fRev + 1) n } }

/-- R50, R59: a FREE tray sampled empty is tallied, and handed to the Earmark Allocator if the loop is RUNNING and
it carries no earmark. -/
def State.confirmFree (s : State) (n t : Nat) : State :=
  let s1 := s.tally n
  if s1.ltk.loop = .running then s1.handOver t else s1

/-- R50: a FREE tray sampled occupied is a ghost. -/
def Change.ghostFree (ch : Change) (t : Nat) (earmark : Option LaneId) : Change :=
  (ch.modify (fun s => s.putTray t (.blocked 0 .ghost))).post (.ghost t earmark)

/-- R40, R51: what a RESERVED tray sampled occupied becomes. -/
def ghostOf (disablePending : Bool) : Tray := if disablePending then .disabled else .blocked 0 .reservedGhost

/-- R51: a RESERVED tray of a claim found occupied: BLOCKED, or DISABLED under disable pending. -/
def State.blockReserved (s : State) (t : Nat) : State :=
  match s.tray t with
  | .reserved _ _ d => s.putTray t (ghostOf d)
  | _ => s

/-- R32, R51: a RESERVED tray sampled occupied. The claim is revoked whatever the holder lane's state, the tray and
the other member of a pair take their new states, and a GHOST tray event is posted, which names the LEAD of a pair
first (R57; notes/assumptions/23.md). -/
def Change.ghostReserved (ch : Change) (t : Nat) (holder : LaneId) (pair : Option Partner) : Change :=
  let named := pairTrays t pair
  let blocked := ch.modify (fun s => named.foldl State.blockReserved s)
  let states := named.map (fun x => (blocked.st.tray x).state)
  (blocked.revoked holder .trayBlocked).post (.reservedGhost (named.headD t) named.tail.head? holder states)

/-- R25, R52: a LOADED tray is freed, by its own disable pending. -/
def State.freeLoaded (s : State) (t : Nat) : State :=
  match s.tray t with
  | .loaded ld p k f d => s.putTray t (Tray.freed (.loaded ld p k f d))
  | _ => s

/-- R52: a LOADED tray, or the LEAD of a pair, sampled empty: freed, each member by its own disable pending, with a
LOST tray event that names what was lost. -/
def Change.lost (ch : Change) (t : Nat) (load : Option LaneLoad) (pair : Option Partner) (recirc : Nat) : Change :=
  let named := t :: (pair.map Partner.tray).toList
  let freed := ch.modify (fun s => named.foldl State.freeLoaded s)
  freed.post (.lost t (pair.map Partner.tray) (load.map LaneLoad.holder) (load.bind LaneLoad.ticket)
    (load.map LaneLoad.length) recirc (named.map (fun x => (freed.st.tray x).state)))

/-- R53: a LOADED tray with the recirculation count and first pass pending of an occupied sample. -/
def State.setPasses (recirc : Nat) (firstPass : Bool) (s : State) (t : Nat) : State :=
  match s.tray t with
  | .loaded ld p _ _ d => s.putTray t (.loaded ld p recirc firstPass d)
  | _ => s

/-- R53: a LOADED tray, or the LEAD of a pair, sampled occupied: first pass pending is cleared, or the
recirculation count rises by 1 up to 15, with RECIRC_LIMIT when it comes to the limit. Both members change. -/
def Change.recirculated (ch : Change) (limit t : Nat) (load : Option LaneLoad) (pair : Option Partner)
    (recirc : Nat) (firstPass : Bool) : Change :=
  let named := t :: (pair.map Partner.tray).toList
  if firstPass then ch.modify (fun s => named.foldl (State.setPasses recirc false) s)
  else
    let up := min (recirc + 1) Config.recircTop
    let raised := ch.modify (fun s => named.foldl (State.setPasses up false) s)
    if recirc < up ∧ up = limit then
      raised.post (.recircLimit t (pair.map Partner.tray) (load.map LaneLoad.holder) (load.bind LaneLoad.ticket) up)
    else raised

/-- R54: an UNVERIFIED tray sampled empty is freed; one that becomes FREE is then treated as a FREE tray sampled
empty. -/
def State.foundEmpty (s : State) (n t : Nat) (disablePending : Bool) : State :=
  let s1 := s.putTray t (Tray.freed (.unverified disablePending))
  if disablePending then s1 else s1.confirmFree n t

/-- R55: an UNVERIFIED tray sampled occupied becomes a found load, with a LOAD notice marked found. -/
def Change.foundLoad (ch : Change) (t : Nat) (disablePending : Bool) : Change :=
  let e : Tray := .loaded none none 0 false disablePending
  (ch.modify (fun s => s.putTray t e)).post (.load t true e)

/-- R56: a BLOCKED tray sampled empty: the streak becomes 1, or the tray is resolved, made UNVERIFIED, freed and
treated as an empty FREE tray within the passage, with a RESOLVED tray event. -/
def Change.blockedEmpty (ch : Change) (n t streak : Nat) (cause : BlockCause) : Change :=
  if streak = 0 then ch.modify (fun s => s.putTray t (.blocked 1 cause))
  else
    (ch.modify (fun s => (s.putTray t (.unverified false)).foundEmpty n t false)).post (.resolved t cause .free)

/-- R49: the sample of tray `t` at its centre passage: the state of its entry against the check eye. A DISABLED
tray, a LAUNCHED tray and the TRAIL of a LOADED pair are passed over. -/
def Change.sample (ch : Change) (g : Geometry) (t : Nat) : Change :=
  let occupied := ch.st.lines.checkEye
  match ch.st.tray t with
  | .disabled => ch
  | .launched .. => ch
  | .free earmark =>
    if occupied then ch.ghostFree t earmark else ch.modify (fun s => s.confirmFree g.n t)
  | .reserved holder pair _ => if occupied then ch.ghostReserved t holder pair else ch
  | .loaded load pair recirc firstPass _ =>
    if pair.map Partner.role = some .trail then ch
    else if occupied then ch.recirculated g.recircLimit t load pair recirc firstPass
    else ch.lost t load pair recirc
  | .unverified d => if occupied then ch.foundLoad t d else ch.modify (fun s => s.foundEmpty g.n t d)
  | .blocked streak cause =>
    if occupied then ch.modify (fun s => s.putTray t (.blocked 0 cause)) else ch.blockedEmpty g.n t streak cause

/-- R4, R49: the tray whose centre is at the check station when Q is at `q`, if one is. -/
def centreTray (g : Geometry) (q : Nat) : Option Nat :=
  let x := ringPos g.nc ((q : Int) - (g.sChk : Int))
  if x % g.c = g.c / 2 then some (x / g.c) else none

/-- R4: a position offered to the Check Station Monitor: in every loop state but UNSYNCED it is a centre passage
of the tray whose centre is at the check station, and that tray is sampled. -/
def Change.checkPassage (ch : Change) (g : Geometry) (q : Nat) : Change :=
  match centreTray g q with
  | none => ch
  | some t => if ch.st.ltk.loop = .unsynced then ch else ch.sample g t

end Sys2Proof.Machine
end

