-- ==== Sys2Proof/Machine/Loop.lean ====
section
/-! DEFINITION. The Loop Tracker (chapter 1): counts, pitch events and passages, speed, loop states, the home
marker, slips and the revolution event. -/

namespace Sys2Proof.Machine

/-! ### Loop states -/

/-- R9, R139: the loop goes to a state with a STATE event of a cause, and the cues follow. -/
def Change.goTo (ch : Change) (new : LoopState) (cause : StateCause) : Change :=
  let old := ch.st.ltk.loop
  let moved := ch.modify (fun s => (s.modLtk (fun k => { k with loop := new })).showCues old)
  moved.post (.state old new cause)

/-- R10: as the loop leaves RUNNING, every claim is released with reason LOOP_NOT_RUNNING and every earmark is
removed. -/
def Change.leaveRunning (ch : Change) (order : List LaneId) : Change :=
  (ch.releaseClaims order .loopNotRunning).modify State.clearEarmarks

/-- R7, R8, R19: the loop goes to a state, and if it was RUNNING its claims and earmarks are released within the
change. -/
def Change.departTo (ch : Change) (order : List LaneId) (new : LoopState) (cause : StateCause) : Change :=
  let gone := ch.goTo new cause
  if ch.st.ltk.loop = .running then gone.leaveRunning order else gone

/-! ### Speed -/

/-- R5, R6: the speed history is emptied, and the overspeed arm is armed with it. -/
def Ltk.emptyHistory (k : Ltk) : Ltk := { k with history := [], overspeedArmed := true }

/-- R3 steps 1 to 3: the interval since the last pitch timestamp, where there is one, joins the history, of which
the last four stay, and the reading becomes the last pitch timestamp. -/
def Ltk.recordPitch (now : Micros) (k : Ltk) : Ltk :=
  let history :=
    match k.lastPitch with
    | none => k.history
    | some p =>
      let longer := k.history ++ [(now - p).toNat]
      longer.drop (longer.length - Config.historyPlaces)
  { k with history := history, lastPitch := some now }

/-- R6: OVERSPEED is posted once when P_avg falls below 40,000 µs while the arm is armed, and the arm is armed again
at a valid P_avg of 40,000 µs or more. -/
def Change.checkOverspeed (ch : Change) : Change :=
  match pAvg ch.st.ltk.history with
  | none => ch
  | some p =>
    if p < Config.fastestPitch then
      if ch.st.ltk.overspeedArmed then
        (ch.modify (fun s => s.modLtk (fun k => { k with overspeedArmed := false }))).post (.overspeed p)
      else ch
    else ch.modify (fun s => s.modLtk (fun k => { k with overspeedArmed := true }))

/-- R8: the speed transitions at a pitch event. -/
def Change.checkSpeed (ch : Change) (g : Geometry) (order : List LaneId) : Change :=
  match ch.st.ltk.loop, pAvg ch.st.ltk.history with
  | .crawling, some p => if p ≤ g.pSlow then ch.departTo order .running .speed else ch
  | .running, some p => if g.pSlow < p then ch.departTo order .crawling .speed else ch
  | _, _ => ch

/-! ### Slips and escalation -/

/-- R16, R17: the slip actions that a missing marker takes as well: claims, flights, earmarks. -/
def Change.slipLosses (ch : Change) (order : List LaneId) : Change :=
  let freed := ch.releaseClaims order .slip
  let resolved := order.foldl (Change.resolveFlights .slip) freed
  resolved.modify State.clearEarmarks

/-- R18: escalation, when the consecutive-slip count has reached 2. -/
def Change.escalate (ch : Change) : Change :=
  if ch.st.ltk.slips < 2 then ch
  else
    let gone := ch.goTo .unsynced .escalation
    (gone.modify (fun s => s.modLtk (fun k =>
      { k with resyncRequired := true, resyncPending := false, windowOpen := false }))).post .positionUntrusted

/-- R16: the slip actions. -/
def Change.slip (ch : Change) (order : List LaneId) (d : Int) : Change :=
  let lost := ch.slipLosses order
  let moved := lost.modify (fun s => s.modLtk (fun k =>
    { k with
      q := 0
      recount := if 0 < d then d.toNat else k.recount
      movement := false
      lastPitch := none
      slips := k.slips + 1 }))
  (moved.post (.slip d)).escalate

/-- R17: the marker is missing: the slip actions except position and movement, with MARKER_MISSING. -/
def Change.missing (ch : Change) (order : List LaneId) : Change :=
  let closed := ch.modify (fun s => s.modLtk (fun k => { k with windowOpen := false }))
  let lost := closed.slipLosses order
  let counted := lost.modify (fun s => s.modLtk (fun k => { k with slips := k.slips + 1 }))
  (counted.post .markerMissing).escalate

/-- R17: the marker-window checks of a pitch event in CRAWLING or RUNNING. -/
def Change.checkWindow (ch : Change) (g : Geometry) (order : List LaneId) : Change :=
  let k := ch.st.ltk
  if k.loop = .crawling ∨ k.loop = .running then
    if k.q = g.nc - g.c then ch.modify (fun s => s.modLtk (fun k => { k with windowOpen := true }))
    else if k.q = g.c ∧ k.windowOpen = true then ch.missing order
    else ch
  else ch

/-! ### Pitch events and passages -/

/-- R3 step 5: the pitch event as it is raised, after the speed transitions and the marker-window checks. -/
def Ltk.pitchEvent (k : Ltk) : PitchEvent :=
  { q := k.q, loop := k.loop, recounting := decide (0 < k.recount),
    period := if k.loop = .running then pUse k.history else none }

/-- R3 step 5: the pitch event at one of those it is raised to. -/
def Change.pitchTurn (g : Geometry) (ev : PitchEvent) (ch : Change) : Agent → Change
  | .ls l => ch.lanePitch g ev l
  | .pgen l => ch.modify (fun s => s.countPitch l ev.loop)
  | .csm => ch

/-- R3: a pitch event. That OVERSPEED is posted before the STATE (SPEED) and the MARKER_MISSING of the same event is the
model's choice (notes/assumptions/32.md): the rules order the measures of the event and not these notices. -/
def Change.pitch (ch : Change) (g : Geometry) (m : Moment) : Change :=
  let recorded := ch.modify (fun s => s.modLtk (Ltk.recordPitch s.micros))
  let checked := ((recorded.checkOverspeed.checkSpeed g m.laneOrder).checkWindow g m.laneOrder)
  m.pitchOrder.foldl (Change.pitchTurn g checked.st.ltk.pitchEvent) checked

/-- R4: a position at one of those it is offered to. -/
def Change.passTurn (g : Geometry) (q : Nat) (ch : Change) : Agent → Change
  | .csm => ch.checkPassage g q
  | .ls l => ch.lanePassage g q l
  | .pgen _ => ch

/-- R4: Q is offered as the k-th passage of the command, or withheld while the recount span is above 0. -/
def Change.offer (ch : Change) (g : Geometry) (m : Moment) (k : Nat) : Change :=
  if 0 < ch.st.ltk.recount then ch
  else (m.passOrder k).foldl (Change.passTurn g ch.st.ltk.q) ch

/-- R2: the count in a loop at rest: STOPPED goes to CRAWLING with cause MOTION. -/
def Change.motion (ch : Change) : Change :=
  if ch.st.ltk.loop = .stopped then ch.goTo .crawling .motion else ch

/-- R2: the count is taken: Q advances, a movement begins if none is in progress, the stall timer is restarted, and
the marker is armed. -/
def Ltk.count (nc : Nat) (now : Micros) (k : Ltk) : Ltk :=
  { k with
    q := (k.q + 1) % nc
    movement := true
    lastPitch := if k.movement then k.lastPitch else none
    stall := some now
    armed := true }

/-- R2: an encoder count under geometry `g`. -/
def Change.count (ch : Change) (g : Geometry) (m : Moment) : Change :=
  let taken := ch.motion.modify (fun s => s.modLtk (Ltk.count g.nc s.micros))
  let pitched := if taken.st.ltk.q % g.c = 0 then taken.pitch g m else taken
  let offered := pitched.offer g m 0
  offered.modify (fun s => s.modLtk (fun k => { k with recount := k.recount - 1 }))

/-! ### The home marker -/

/-- R14: the positions from old Q + 1 through NC − 1, each with its place among the passages. -/
def forwardPositions (nc q : Nat) : List (Nat × Nat) := (List.range (nc - 1 - q)).map (fun i => (i, q + 1 + i))

/-- R14: Q comes to a position on the way of a forward correction, and the position is offered. -/
def Change.forwardStep (g : Geometry) (m : Moment) (ch : Change) (kq : Nat × Nat) : Change :=
  (ch.modify (fun s => s.modLtk (fun k => { k with q := kq.2 }))).offer g m kq.1

/-- R14: a clean marker with d negative: the positions up to NC − 1 are offered, then Q comes to 0, which is a pitch
event at the marker, and 0 is offered. That the pitch event at 0 comes before the offer of 0 is the model's choice, R2
giving that order for a count alone (notes/assumptions/33.md). -/
def Change.forward (ch : Change) (g : Geometry) (m : Moment) : Change :=
  let way := forwardPositions g.nc ch.st.ltk.q
  let passed := way.foldl (Change.forwardStep g m) ch
  let arrived := passed.modify (fun s => s.modLtk (fun k => { k with q := 0 }))
  (arrived.pitch g m).offer g m way.length

/-- R12 to R15: a marker taken in STOPPED, CRAWLING or RUNNING is measured, and corrected or taken as a slip. -/
def Change.measuredMarker (ch : Change) (g : Geometry) (m : Moment) : Change :=
  let d := signedDistance g.nc 0 ch.st.ltk.q
  if d.natAbs ≤ g.slipTol then
    let clean := ch.modify (fun s => s.modLtk (fun k => { k with slips := 0 }))
    if d < 0 then clean.forward g m
    else if 0 < d then clean.modify (fun s => s.modLtk (fun k => { k with q := 0, recount := d.toNat }))
    else clean
  else ch.slip m.laneOrder d

/-- R13: a marker taken in UNSYNCED synchronises the loop, which goes to CRAWLING while the stall timer runs and to
STOPPED while it is idle; the history is emptied as the loop enters STOPPED (R5). -/
def Change.synchronise (ch : Change) : Change :=
  let pending := ch.st.ltk.resyncPending
  let set := ch.modify (fun s => s.modLtk (fun k =>
    { k with q := 0, slips := 0, recount := 0, resyncRequired := false, resyncPending := false }))
  let told := if pending then set.post .resyncDone else set
  if ch.st.ltk.stall.isSome then told.goTo .crawling .marker
  else (told.modify (fun s => s.modLtk Ltk.emptyHistory)).goTo .stopped .marker

/-- R175: the figures of the REVOLUTION summary, before the quotas are reloaded. -/
def State.revolutionFigures (s : State) : Revolution :=
  let figures (l : LaneId) : LaneFigures :=
    { launchesRev := (s.lane l).launchesRev, counters := (s.lane l).counters, quota := (s.share l).counter }
  { number := s.ltk.revolution, loop := s.ltk.loop, fPrev := s.csm.fPrev, counts := countTrays s.tmap,
    lanes := ⟨#v[figures 0, figures 1, figures 2, figures 3, figures 4, figures 5, figures 6, figures 7]⟩ }

/-- R20: the revolution event: the number rises by 1, the tally is closed (R58), the automatic intervals are
recomputed (R147), the summary's figures are taken, and then the quotas are reloaded (R129) and the launches of
the revolution set to 0 (R120). -/
def Change.revolutionEvent (ch : Change) (g : Geometry) : Change :=
  let closed := ch.modify (fun s =>
    { s.modLtk (fun k => { k with revolution := k.revolution + 1 }) with
      csm := { fRev := 0, fPrev := s.csm.fRev } })
  let paced := closed.modify (fun s => s.recomputePace g.n)
  (paced.modify (fun s =>
    { s.reloadQuotas with lanes := s.lanes.map (fun ln => { ln with launchesRev := 0 }) })).post
    (.revolution paced.st.revolutionFigures)

/-- R11: whether a pulse of the home sensor is taken as a marker. -/
def Ltk.takesMarker (k : Ltk) : Bool :=
  k.armed && !(decide (k.loop = .unsynced) && k.resyncRequired && !k.resyncPending)

/-- R11: a pulse of the home sensor under geometry `g`. A taken marker disarms the marker, closes the window, has
its effect, and raises a revolution event after it. -/
def Change.homePulse (ch : Change) (g : Geometry) (m : Moment) : Change :=
  if ch.st.ltk.takesMarker then
    let taken := ch.modify (fun s => s.modLtk (fun k => { k with armed := false, windowOpen := false }))
    let acted := if taken.st.ltk.loop = .unsynced then taken.synchronise else taken.measuredMarker g m
    acted.revolutionEvent g
  else ch

/-! ### The stall timer, and the Loop Tracker at a restart -/

/-- R5, R6, R7: the speed history is emptied, the last pitch timestamp becomes absent, and the overspeed arm is
armed. -/
def Ltk.forgetSpeed (k : Ltk) : Ltk := { k.emptyHistory with lastPitch := none }

/-- R7: the stall timer expires. -/
def Change.stallExpires (ch : Change) (order : List LaneId) : Change :=
  match ch.st.ltk.stall with
  | none => ch
  | some _ =>
    let ended := ch.modify (fun s => s.modLtk (fun k => { k with stall := none, movement := false }))
    match ch.st.ltk.loop with
    | .crawling => (ended.modify (fun s => s.modLtk Ltk.forgetSpeed)).departTo order .stopped .stall
    | .running => (ended.modify (fun s => s.modLtk Ltk.forgetSpeed)).departTo order .stopped .stall
    | .unsynced => ended.modify (fun s => s.modLtk Ltk.forgetSpeed)
    | .stopped => ended

/-- R22: what a restart, or an accepted geometry record, sets in the Loop Tracker, but for Q and the loop state. -/
def Ltk.restarted (k : Ltk) : Ltk :=
  { k.forgetSpeed with
    movement := false, stall := none, slips := 0, resyncRequired := false, resyncPending := false, armed := true,
    windowOpen := false, recount := 0, revolution := 0 }

end Sys2Proof.Machine
end

