-- ==== Sys2Proof/Machine/Restart.lean ====
section
/-! DEFINITION. A restart (R178) and the acceptance of a geometry record (R160), block by block. -/

namespace Sys2Proof.Machine

/-- R47: a restart's effect on a tray: DISABLED stays, every other tray is UNVERIFIED with no other field. -/
def Tray.restarted : Tray → Tray
  | .disabled => .disabled
  | _ => .unverified false

/-- R82, R121, R122: what a restart and an accepted geometry record both set in a lane. The mode, the binding, the
active copy, adoption pending, the belt-time and the six counters stay. -/
def Lane.cleared (ln : Lane) : Lane :=
  { ln with
    state := if ln.mode = .absent then .absent else .paused
    records := [], tickets := [], inflight := [], pausePending := false, overfillPending := false,
    overfillDue := false, leadMark := false, launchesRev := 0 }

/-- R82, R121: a restart sets the six counters to 0 as well. -/
def Lane.restarted (ln : Lane) : Lane := { ln.cleared with counters := Counters.zero }

/-- R148: the beat counter becomes 0 and the cue DARK; the intervals are kept. -/
def Pace.restarted (p : Pace) : Pace := { p with beat := 0, cue := .dark }

/-- R178 steps 1 to 3: the queue is emptied, the counters and overflow pending are cleared, and a running live timer
starts anew. Roles, window and the receiver's frame are kept. -/
def Link.restarted (now : Micros) (k : Link) : Link :=
  { k with queue := [], frameErrors := 0, overruns := 0, overflow := false, live := k.live.map (fun _ => now) }

/-- R22, R47, R61, R82, R121, R135, R148, R178: every block after a restart. -/
def State.restarted (s : State) : State :=
  { s with
    ltk := { s.ltk.restarted with loop := .unsynced }
    tmap := s.tmap.map Tray.restarted
    csm := { fRev := 0, fPrev := 0 }
    eal := s.eal.restarted
    lanes := s.lanes.map Lane.restarted
    pace := s.pace.map Pace.restarted
    links := s.links.map (Link.restarted s.micros) }

/-- R178: a restart, with the STATE event of cause RESTART as its one notice, posted even when the loop was already
UNSYNCED (R22). -/
def State.restart (s : State) : Change := s.restarted.begin.post (.state s.ltk.loop .unsynced .restart)

/-- R22, R46, R61, R83, R122, R135, R148, R160: every block after the acceptance of a geometry record. -/
def State.accepted (s : State) (g : Geometry) : State :=
  { s with
    ltk := { s.ltk.restarted with loop := .unsynced, q := 0 }
    tmap := List.replicate g.n (.unverified false)
    csm := { fRev := 0, fPrev := 0 }
    eal := s.eal.restarted
    lanes := s.lanes.map Lane.cleared
    pace := s.pace.map Pace.restarted
    pst := { s.pst with geometry := some g } }

/-- R160: the acceptance, with the STATE event of cause GEOMETRY as its one notice. -/
def State.accept (s : State) (g : Geometry) : Change :=
  (s.accepted g).begin.post (.state s.ltk.loop .unsynced .geometry)

/-- R21, R46, R61, R81, R96, R124, R137, R149, R182: power is applied. Every block takes its power-up values; the
levels of the input lines are the installation's and stay, as do the commands waiting; the microsecond counter, of which
the spec says nothing at power-up, becomes 0 (all three DESIGN CHOICE: notes/assumptions/8.md, 9.md). -/
def State.poweredUp (s : State) : State := { State.reset with lines := s.lines, pending := s.pending }

end Sys2Proof.Machine
end

