-- ==== Sys2Proof/Machine/GeneralRequests.lean ====
section
/-! DEFINITION. The requests of general use: PING, STATUS, BIND, UNBIND, RESTART, RESYNC (R166, R167, R176 to
R178, R19). -/

namespace Sys2Proof.Machine

/-- R176: a PING is answered with its bytes; one of more than 249 is refused. -/
def ownPing (bytes : List Byte) (s : State) : Reply × Change :=
  if bytes.length ≤ Config.pingBytes then (.okay (.echo bytes), s.begin) else (.refuse .badValue, s.begin)

/-- PING (R176). -/
def execPing (m : Moment) (link : LinkId) (tag : Byte) (bytes : List Byte) (s : State) :
    Host.Outcome State Fault Refusal :=
  .next (s.request m link tag .ping none (ownPing bytes))

/-- R177: the report, read at the moment the request is taken; the places in use count the reply itself. -/
def State.statusReport (s : State) (link : LinkId) : StatusReport :=
  let k := s.link link
  { loop := s.ltk.loop, q := s.ltk.q, pAvg := (pAvg s.ltk.history).getD 0, revolution := s.ltk.revolution,
    slips := s.ltk.slips, resyncRequired := s.ltk.resyncRequired, resyncPending := s.ltk.resyncPending,
    geometry := s.pst.geometry.map (fun g => (g.n, g.c)),
    roles := s.links.map (fun k => (k.planner, k.discharge, k.window)),
    placesInUse := k.queue.length + 1, overflowReported := k.overflow, frameErrors := k.frameErrors,
    overruns := k.overruns }

/-- R173, R177: STATUS reports, and clears the sending link's overflow pending. -/
def ownStatus (link : LinkId) (s : State) : Reply × Change :=
  (.okay (.status (s.statusReport link)), (s.modLink link (fun k => { k with overflow := false })).begin)

/-- STATUS (R173, R177). -/
def execStatus (m : Moment) (link : LinkId) (tag : Byte) (s : State) : Host.Outcome State Fault Refusal :=
  .next (s.request m link tag .status none (ownStatus link))

/-! ### BIND and UNBIND -/

/-- The roles and window of a link, as the BIND reply carries them (R166). -/
def Link.bindings (k : Link) : ReplyBody := .bindings k.planner k.discharge k.window

/-- R166, R169: a role is added; a link that held none starts its live timer. -/
def Link.take (now : Micros) (f : Link → Link) (k : Link) : Link :=
  let k1 := f k
  if k.bound then k1 else { k1 with live := some now }

/-- R166: an OK reply to BIND, with the link's roles and window after the request. -/
def bindReply (link : LinkId) (ch : Change) : Reply × Change := (.okay (ch.st.link link).bindings, ch)

/-- R166: BIND of PLANNER or DISCHARGE: `held` reads the role, `f` takes it. -/
def ownBindRole (link : LinkId) (held : Link → Bool) (f : Link → Link) (s : State) : Reply × Change :=
  if held (s.link link) then bindReply link s.begin
  else
    match s.otherLink link held with
    | some k => (.refuse .roleTaken (.holder k), s.begin)
    | none => bindReply link (s.modLink link (Link.take s.micros f)).begin

/-- R166: two windows share a lane. -/
def Window.overlaps (w : Window) (k : Link) : Bool :=
  match k.window with
  | none => false
  | some v => decide (w.base ≤ v.limit ∧ v.base ≤ w.limit)

/-- R165: the lanes of a window. -/
def Window.has (w : Window) (l : LaneId) : Bool := decide (w.base ≤ l ∧ l ≤ w.limit)

/-- R166: BIND of LANE with a window. A window that replaces another loses the lanes that the new one does not hold,
each as R118 states. -/
def ownBindLane (m : Moment) (link : LinkId) (w : Window) (s : State) : Reply × Change :=
  match s.otherLink link w.overlaps with
  | some k => (.refuse .windowOverlap (.holder k), s.begin)
  | none =>
    let old := s.link link
    let bound := (s.modLink link (Link.take s.micros (fun k => { k with window := some w }))).begin
    bindReply link (bound.loseLanes m.laneOrder (fun l => old.holds l && !w.has l))

/-- R166. -/
def ownBind (m : Moment) (link : LinkId) (role base limit : Byte) (s : State) : Reply × Change :=
  match roleOf role with
  | none => (.refuse .badValue, s.begin)
  | some .planner => ownBindRole link Link.planner (fun k => { k with planner := true }) s
  | some .discharge => ownBindRole link Link.discharge (fun k => { k with discharge := true }) s
  | some .lane =>
    match windowOf base limit with
    | none => (.refuse .badValue, s.begin)
    | some w => ownBindLane m link w s

/-- BIND (R166). -/
def execBind (m : Moment) (link : LinkId) (tag : Byte) (role base limit : Byte) (s : State) :
    Host.Outcome State Fault Refusal :=
  .next (s.request m link tag .bind none (ownBind m link role base limit))

/-- R167: an OK reply to UNBIND, with the link's roles after the request (notes/assumptions/20.md). -/
def unbindReply (link : LinkId) (ch : Change) : Reply × Change :=
  let k := ch.st.link link
  (.okay (.roles k.planner k.discharge k.window.isSome), ch)

/-- R167: UNBIND drops every role of the sending link and its window. -/
def ownUnbind (m : Moment) (link : LinkId) (s : State) : Reply × Change :=
  unbindReply link (s.begin.dropRoles link m.laneOrder)

/-- UNBIND (R167, R168). -/
def execUnbind (m : Moment) (link : LinkId) (tag : Byte) (s : State) : Host.Outcome State Fault Refusal :=
  .next (s.request m link tag .unbind none (ownUnbind m link))

/-! ### RESYNC and RESTART -/

/-- The reply to a RESYNC that is carried out: the loop state and the flags as they then stand (R19). -/
def resyncReply (ch : Change) : Reply × Change :=
  (.okay (.resync ch.st.ltk.loop ch.st.ltk.resyncRequired ch.st.ltk.resyncPending), ch)

/-- R19: resync-pending is set. -/
def Change.setResyncPending (ch : Change) : Change :=
  ch.modify (fun s => s.modLtk (fun k => { k with resyncPending := true }))

/-- R19. -/
def ownResync (m : Moment) (s : State) : Reply × Change :=
  match s.pst.geometry with
  | none => (.refuse .wrongState, s.begin)
  | some _ =>
    if s.ltk.loop = .unsynced then resyncReply s.begin.setResyncPending
    else
      let gone := s.begin.departTo m.laneOrder .unsynced .resync
      let resolved := m.laneOrder.foldl (Change.resolveFlights .resync) gone
      resyncReply (resolved.setResyncPending.modify (fun s => s.modLtk (fun k => { k with windowOpen := false })))

/-- RESYNC (R19). -/
def execResync (m : Moment) (link : LinkId) (tag : Byte) (s : State) : Host.Outcome State Fault Refusal :=
  .next (s.request m link tag .resync none (ownResync m))

/-- R178: a RESTART is never refused by its owner; its reply is the first frame of the sending link's queue. -/
def ownRestart (s : State) : Reply × Change := (.okay, s.restart)

/-- RESTART (R178). -/
def execRestart (m : Moment) (link : LinkId) (tag : Byte) (s : State) : Host.Outcome State Fault Refusal :=
  .next (s.request m link tag .restart none ownRestart)

end Sys2Proof.Machine
end

