-- ==== Sys2Proof/Machine/LaneRequests.lean ====
section
/-! DEFINITION. The requests of a lane's link: ARM, PAUSE, CLEAR, ANNOUNCE, LANE_STATUS (R74, R112, R113, R115,
R116). The window check has admitted only lanes 0 to 7 (R164 step 6). -/

namespace Sys2Proof.Machine

/-- A lane request's owner: the rule `own` of the lane named. A number above 7 is outside every window and does not
come this far (R164). -/
def onLane (lane : Byte) (own : LaneId → State → Reply × Change) (s : State) : Reply × Change :=
  match laneOf lane with
  | none => (.refuse .outOfWindow, s.begin)
  | some l => own l s

/-- R112, R115: an OK reply that carries the lane state after the change. -/
def laneReply (l : LaneId) (ch : Change) : Reply × Change := (.okay (.laneState (ch.st.lane l).state.name), ch)

/-- R112: where an ARM takes a PAUSED lane: IDLE with the hold eye clear; with it blocked, what R75 makes of the
head. -/
def Change.arm (ch : Change) (l : LaneId) : Change :=
  if ch.st.holdBlocked l then
    let r := (ch.st.lane l).takeHold
    (ch.modify (fun s => s.setLane l r.1)).toState l r.2
  else ch.toState l .idle

/-- R112. -/
def ownArm (l : LaneId) (s : State) : Reply × Change :=
  if (s.lane l).state = .paused then laneReply l (s.begin.arm l) else laneReply l s.begin

/-- ARM (R112). -/
def execArm (m : Moment) (link : LinkId) (tag : Byte) (lane : Byte) (s : State) : Host.Outcome State Fault Refusal :=
  .next (s.request m link tag .arm (some lane) (onLane lane ownArm))

/-- R113. -/
def ownPause (l : LaneId) (s : State) : Reply × Change :=
  if (s.lane l).state = .absent then (.refuse .wrongState, s.begin)
  else
    let paused := s.begin.pauseLane .paused l
    (.okay (.paused (paused.st.lane l).state.name (paused.st.lane l).pausePending), paused)

/-- PAUSE (R113, R114). -/
def execPause (m : Moment) (link : LinkId) (tag : Byte) (lane : Byte) (s : State) :
    Host.Outcome State Fault Refusal :=
  .next (s.request m link tag .pause (some lane) (onLane lane ownPause))

/-- R79, R115: what a CLEAR removes before the change, by the fault's reason. -/
def Lane.beforeClear (reason : FaultReason) (ln : Lane) : Lane :=
  match reason with
  | .tooLong => { ln with records := ln.records.tail }
  | .overfill => { ln with overfillPending := false }
  | .jam => ln
  | .unmeasured => ln

/-- R115. -/
def ownClear (l : LaneId) (s : State) : Reply × Change :=
  match (s.lane l).state.fault? with
  | none => (.refuse .wrongState, s.begin)
  | some reason => laneReply l ((s.modLane l (Lane.beforeClear reason)).begin.toState l .paused)

/-- CLEAR (R115). -/
def execClear (m : Moment) (link : LinkId) (tag : Byte) (lane : Byte) (s : State) :
    Host.Outcome State Fault Refusal :=
  .next (s.request m link tag .clear (some lane) (onLane lane ownClear))

/-- R74. -/
def ownAnnounce (ticket : Ticket) (l : LaneId) (s : State) : Reply × Change :=
  let ln := s.lane l
  if ln.state = .absent then (.refuse .wrongState, s.begin)
  else if Config.ticketPlaces ≤ ln.tickets.length then (.refuse .full (.tickets ln.tickets.length), s.begin)
  else
    let appended := s.modLane l (fun ln => { ln with tickets := ln.tickets ++ [ticket] })
    (.okay (.tickets (appended.lane l).tickets.length), appended.begin)

/-- ANNOUNCE (R74). -/
def execAnnounce (m : Moment) (link : LinkId) (tag : Byte) (lane : Byte) (ticket : Ticket) (s : State) :
    Host.Outcome State Fault Refusal :=
  .next (s.request m link tag .announce (some lane) (onLane lane (ownAnnounce ticket)))

/-- R116: the report of a lane, read at the moment the request is taken. -/
def State.laneReport (s : State) (l : LaneId) : LaneReport :=
  let ln := s.lane l
  { mode := ln.mode, state := ln.state.name, fault := ln.state.fault?, pausePending := ln.pausePending,
    overfillDue := ln.overfillDue, leadMark := ln.leadMark, adoptPending := ln.adoptPending,
    overfillReported := ln.overfillPending, profile := ln.profile, records := ln.records,
    tickets := ln.tickets.length, inflight := ln.inflight, solution := ln.state.solution?, counters := ln.counters,
    launchesRev := ln.launchesRev, cue := if ln.mode = .manual then some (s.paceOf l).cue else none }

/-- R79, R116: LANE_STATUS reports, and clears overfill pending. -/
def ownLaneStatus (l : LaneId) (s : State) : Reply × Change :=
  (.okay (.lane (s.laneReport l)), (s.modLane l (fun ln => { ln with overfillPending := false })).begin)

/-- LANE_STATUS (R79, R116). -/
def execLaneStatus (m : Moment) (link : LinkId) (tag : Byte) (lane : Byte) (s : State) :
    Host.Outcome State Fault Refusal :=
  .next (s.request m link tag .laneStatus (some lane) (onLane lane ownLaneStatus))

end Sys2Proof.Machine
end

