-- ==== Sys2Proof/Machine/LineCommands.lean ====
section
/-! DEFINITION. The commands of the direct lines and of the part's own timers: power, encoder, home sensor, lane
eyes, restart input, stall timer and hold-clear timer. -/

namespace Sys2Proof.Machine

/-- R1: a change of level of an input line is an edge, and is acted on, once it has held long enough; one that does
not hold that long is not an edge and nothing acts on it. Time passes in either case. -/
def State.edge (s : State) (m : Moment) (held enough : Nat) (act : State → State) : State :=
  if enough ≤ held then act (s.clock m) else s.clock m

/-- POWER_UP (R21, R46, R61, R81, R96, R124, R137, R149, R182). No notice is posted. -/
def execPowerUp (s : State) : Host.Outcome State Fault Refusal := .next s.poweredUp

/-- The check eye's level, as the part acts on it. -/
def State.setCheckEye (s : State) (occupied : Bool) : State := { s with lines := { s.lines with checkEye := occupied } }

/-- R1: the level a line is acted on with, after levels it has shown in turn: each is taken once it has held for
50 µs, and one that has not is no edge. -/
def actedLevel (last : Bool) (eye : List EyeLevel) : Bool :=
  eye.foldl (fun level e => if Config.lineHold ≤ e.held then e.occupied else level) last

/-- R1, R49: the check eye's state at the event, from what it has shown since the last command that carried it. -/
def State.takeEye (s : State) (eye : List EyeLevel) : State := s.setCheckEye (actedLevel s.lines.checkEye eye)

/-- R2: an encoder count; while no geometry record is accepted it is ignored. -/
def State.encoderCount (s : State) (m : Moment) : State :=
  match s.pst.geometry with
  | none => s
  | some g => (s.begin.count g m).finish

/-- ENCODER_COUNT (R1 to R6, R8, R17, R49, R84, R140). State holds no level of this line: each command is taken as an
edge of its own, also after a dip too short to be one (the model's choice, notes/assumptions/31.md). -/
def execEncoderCount (m : Moment) (held : Nat) (eye : List EyeLevel) (s : State) : Host.Outcome State Fault Refusal :=
  .next ((s.takeEye eye).edge m held Config.encoderHold fun s => s.encoderCount m)

/-- R11: a pulse of the home sensor; while no geometry record is accepted it is ignored. -/
def State.homePulse (s : State) (m : Moment) : State :=
  match s.pst.geometry with
  | none => s
  | some g => (s.begin.homePulse g m).finish

/-- HOME_PULSE (R11 to R16, R18, R20, R49). As for ENCODER_COUNT, each command is taken as a pulse of its own
(notes/assumptions/31.md). -/
def execHomePulse (m : Moment) (held : Nat) (eye : List EyeLevel) (s : State) : Host.Outcome State Fault Refusal :=
  .next ((s.takeEye eye).edge m held Config.lineHold fun s => s.homePulse m)

/-- STALL_TIMER_EXPIRY (R7, R10). -/
def execStallTimerExpiry (m : Moment) (s : State) : Host.Outcome State Fault Refusal :=
  .next ((s.clock m).begin.stallExpires m.laneOrder).finish

/-! ### Length eye -/

/-- The level of a lane's length eye. -/
def State.setLengthEye (s : State) (l : LaneId) (blocked : Bool) : State :=
  { s with lines := { s.lines with lengthEye := s.lines.lengthEye.set l blocked } }

/-- R69: a leading edge begins a record bound to the oldest pending ticket. -/
def Lane.beginRecord (ln : Lane) : Lane :=
  { ln with
    records := ln.records ++ [.measuring ln.beltTime ln.tickets.head?]
    tickets := ln.tickets.tail }

/-- R77: a leading edge at a full list: overfill pending is set, and the lane faults at once in IDLE, WAITING and
PAUSED, has the fault due in TRACKING, COMMITTED and RELEASING, and stays as it is in FAULTED. -/
def Change.overfill (ch : Change) (l : LaneId) : Change :=
  let noted := ch.modify (fun s => s.modLane l (fun ln => { ln with overfillPending := true }))
  match (ch.st.lane l).state with
  | .idle => noted.toState l (.faulted .overfill)
  | .waiting => noted.toState l (.faulted .overfill)
  | .paused => noted.toState l (.faulted .overfill)
  | .tracking _ => noted.modify (fun s => s.modLane l (fun ln => { ln with overfillDue := true }))
  | .committed _ => noted.modify (fun s => s.modLane l (fun ln => { ln with overfillDue := true }))
  | .releasing _ _ => noted.modify (fun s => s.modLane l (fun ln => { ln with overfillDue := true }))
  | .faulted _ => noted
  | .absent => ch

/-- R69, R77, R142: a leading edge at a lane's length eye. The Pace Generator acts on the cue as it stood before the
edge (notes/assumptions/14.md). -/
def State.leadingEdge (s : State) (l : LaneId) : State :=
  if (s.lane l).state = .absent then s
  else
    let placed := s.placement l
    if (placed.lane l).records.length < Config.recordPlaces then placed.modLane l Lane.beginRecord
    else (placed.begin.overfill l).finish

/-- LENGTH_EYE_LEADING_EDGE (R69, R77, R142). An eye that is blocked already has no leading edge (R1;
notes/assumptions/7.md). -/
def execLengthEyeLeadingEdge (m : Moment) (held : Nat) (lane : LaneId) (s : State) :
    Host.Outcome State Fault Refusal :=
  .next (s.edge m held Config.lineHold fun s =>
    if s.lines.lengthEye.get lane then s else (s.setLengthEye lane true).leadingEdge lane)

/-- R70: a parcel's length from the belt-time between its edges. -/
def measuredLength (dt : Micros) (vB : Nat) : Nat := min ((dt.toNat * vB + 500000) / 1000000) 65535

/-- R71: the disposition of a length at or above the minimum. -/
def classify (u length : Nat) : Disposition :=
  if length ≤ u then .induct .one else if length ≤ 2 * u then .induct .two else .reject

/-- R72: a glitch's ticket goes back to the front of the pending list; when that makes nine, the newest leaves. -/
def returnTicket (tickets : List Ticket) : Option Ticket → List Ticket
  | none => tickets
  | some t => (t :: tickets).take Config.ticketPlaces

/-- R72: the ticket that a return drops: the newest of a full pending list. -/
def droppedTicket (tickets : List Ticket) : Option Ticket → Option Ticket
  | none => none
  | some _ => if Config.ticketPlaces ≤ tickets.length then tickets.getLast? else none

/-- R72: a glitch removes its record, counts, and returns its ticket, with TICKET_DROPPED for the ticket that a full
list loses. -/
def Change.glitch (ch : Change) (l : LaneId) (ticket : Option Ticket) : Change :=
  let dropped := droppedTicket (ch.st.lane l).tickets ticket
  let gone := ch.modify (fun s => s.modLane l (fun ln =>
    { ln with
      records := ln.records.dropLast
      counters := { ln.counters with glitches := raise16 ln.counters.glitches }
      tickets := returnTicket ln.tickets ticket }))
  match dropped with
  | none => gone
  | some t => gone.post (.ticketDropped l t)

/-- R71: a record that stays: its length and disposition are written, and it counts as a no-read where it carries no
ticket. -/
def Lane.complete (u length : Nat) (ticket : Option Ticket) (ln : Lane) : Lane :=
  { ln with
    records := ln.records.dropLast ++ [.onBelt { ticket := ticket, length := length, disposition := classify u length }]
    counters :=
      if ticket.isNone then { ln.counters with noReads := raise16 ln.counters.noReads } else ln.counters }

/-- R71: a trailing edge completes the lane's MEASURING record; where there is none it is not acted on. -/
def State.trailingEdge (s : State) (l : LaneId) : State :=
  let ln := s.lane l
  if ln.state = .absent then s
  else
    match s.pst.geometry, ln.records.getLast? with
    | some g, some (.measuring leading ticket) =>
      let length := measuredLength (ln.beltTime - leading) ln.copy.vB
      if length < ln.copy.minLength then (s.begin.glitch l ticket).finish
      else s.modLane l (Lane.complete g.u length ticket)
    | _, _ => s

/-- LENGTH_EYE_TRAILING_EDGE (R70 to R72). An eye that is clear already has no trailing edge. -/
def execLengthEyeTrailingEdge (m : Moment) (held : Nat) (lane : LaneId) (s : State) :
    Host.Outcome State Fault Refusal :=
  .next (s.edge m held Config.lineHold fun s =>
    if s.lines.lengthEye.get lane then (s.setLengthEye lane false).trailingEdge lane else s)

/-! ### Hold eye -/

/-- The level of a lane's hold eye. -/
def State.setHoldEye (s : State) (l : LaneId) (blocked : Bool) : State :=
  { s with lines := { s.lines with holdEye := s.lines.holdEye.set l blocked } }

/-- R75, R97: the block of the hold eye taken by the head of the list, and the change it makes. -/
def Change.takeBlock (ch : Change) (l : LaneId) : Change :=
  let r := (ch.st.lane l).takeHold
  (ch.modify (fun s => s.setLane l r.1)).toState l r.2

/-- R75, R76: the hold eye becomes blocked; acted on in IDLE alone. -/
def State.holdBlocks (s : State) (l : LaneId) : State :=
  if (s.lane l).state = .idle then (s.begin.takeBlock l).finish else s

/-- HOLD_EYE_BLOCKED (R75, R76). An eye that is blocked already does not become blocked. -/
def execHoldEyeBlocked (m : Moment) (held : Nat) (lane : LaneId) (s : State) : Host.Outcome State Fault Refusal :=
  .next (s.edge m held Config.lineHold fun s =>
    if s.holdBlocked lane then s else (s.setHoldEye lane true).holdBlocks lane)

/-- HOLD_EYE_CLEARED (R76, R104). An eye that is clear already does not clear. -/
def execHoldEyeCleared (m : Moment) (held : Nat) (lane : LaneId) (s : State) : Host.Outcome State Fault Refusal :=
  .next (s.edge m held Config.lineHold fun s =>
    if s.holdBlocked lane then ((s.setHoldEye lane false).begin.holdClear lane).finish else s)

/-- HOLD_CLEAR_TIMEOUT (R105). -/
def execHoldClearTimeout (m : Moment) (lane : LaneId) (s : State) : Host.Outcome State Fault Refusal :=
  .next ((s.clock m).begin.jam lane).finish

/-! ### Restart input -/

/-- The restart input as the part acts on it. -/
def State.setRestartLine (s : State) (active : Bool) : State := { s with lines := { s.lines with restartActive := active } }

/-- R178: the restart input becomes active; while it is held active nothing further is done. No reply is posted. -/
def State.restartRises (s : State) : State :=
  if s.lines.restartActive then s else (s.setRestartLine true).restart.finish

/-- RESTART_INPUT (R1, R178). -/
def execRestartInput (m : Moment) (held : Nat) (s : State) : Host.Outcome State Fault Refusal :=
  .next (s.edge m held Config.restartHold State.restartRises)

/-- RESTART_INPUT_FALL (R1, R178). -/
def execRestartInputFall (m : Moment) (held : Nat) (s : State) : Host.Outcome State Fault Refusal :=
  .next (s.edge m held Config.lineHold fun s => s.setRestartLine false)

end Sys2Proof.Machine
end

