-- ==== Sys2Proof/Machine/PlannerRequests.lean ====
section
/-! DEFINITION. The planner's settings: SET_GEOMETRY, WRITE_PROFILE, READ_PROFILE, BIND_PROFILE, SET_LANE_MODE,
SET_ROTATION, SET_QUOTA, SET_PACE (R126, R130, R145, R150 to R152, R159, R160, R180). -/

namespace Sys2Proof.Machine

/-- R159 step 2: the loop moves, a lane is RELEASING, or a launch is in flight. -/
def State.geometryBusy (s : State) : Bool :=
  decide (s.ltk.loop = .crawling ∨ s.ltk.loop = .running) ||
    allLanes.any (fun l => (s.lane l).state.name == .releasing || !(s.lane l).inflight.isEmpty)

/-- R159, R160. -/
def ownSetGeometry (w : GeometryWords) (s : State) : Reply × Change :=
  let g := GeometryWords.toGeometry w
  match g.firstBad with
  | some i => (.refuse .badValue (.geometryField i), s.begin)
  | none =>
    if s.geometryBusy then (.refuse .busy (.loop s.ltk.loop), s.begin) else (.okay (.geometry g), s.accept g)

/-- SET_GEOMETRY (R159, R160). -/
def execSetGeometry (m : Moment) (link : LinkId) (tag : Byte) (g : GeometryWords) (s : State) :
    Host.Outcome State Fault Refusal :=
  .next (s.request m link tag .setGeometry none (ownSetGeometry g))

/-! ### Profiles -/

/-- R153, R156: a lane whose bound record or binding has changed is marked adoption pending, or adopts at once in
ABSENT. -/
def State.profileChanged (s : State) (l : LaneId) : State :=
  if (s.lane l).state = .absent then s.adopt l else s.modLane l (fun ln => { ln with adoptPending := true })

/-- R150: a record is stored, and every lane bound to it is told. -/
def State.storeProfile (s : State) (i : ProfileId) (p : Profile) : State :=
  let stored := { s with pst := { s.pst with profiles := s.pst.profiles.set i p } }
  allLanes.foldl (fun s l => if (s.lane l).profile = i then s.profileChanged l else s) stored

/-- R150. -/
def ownWriteProfile (number : Byte) (w : ProfileWords) (s : State) : Reply × Change :=
  match profileOf number, paceModeOf w.mode with
  | some i, some mode =>
    let p := ProfileWords.clamped w mode
    (⟨.ok (decide (p ≠ ProfileWords.asSent w mode)), .profileWritten i p⟩, (s.storeProfile i p).begin)
  | _, _ => (.refuse .badValue, s.begin)

/-- WRITE_PROFILE (R150). -/
def execWriteProfile (m : Moment) (link : LinkId) (tag : Byte) (profile : Byte) (w : ProfileWords) (s : State) :
    Host.Outcome State Fault Refusal :=
  .next (s.request m link tag .writeProfile none (ownWriteProfile profile w))

/-- R151. The lanes bound to the record are listed in lane-number order (DESIGN CHOICE, notes/assumptions/29.md). -/
def ownReadProfile (number : Byte) (s : State) : Reply × Change :=
  match profileOf number with
  | none => (.refuse .badValue, s.begin)
  | some i =>
    (.okay (.profileRead (s.profile i) (allLanes.filter (fun l => (s.lane l).profile = i))), s.begin)

/-- READ_PROFILE (R151). -/
def execReadProfile (m : Moment) (link : LinkId) (tag : Byte) (profile : Byte) (s : State) :
    Host.Outcome State Fault Refusal :=
  .next (s.request m link tag .readProfile none (ownReadProfile profile))

/-- R152. -/
def ownBindProfile (lane number : Byte) (s : State) : Reply × Change :=
  match laneOf lane, profileOf number with
  | some l, some i =>
    let bound := (s.modLane l (fun ln => { ln with profile := i })).profileChanged l
    (.okay (.profileBound l i (bound.lane l).adoptPending), bound.begin)
  | _, _ => (.refuse .badValue, s.begin)

/-- BIND_PROFILE (R152). -/
def execBindProfile (m : Moment) (link : LinkId) (tag : Byte) (lane profile : Byte) (s : State) :
    Host.Outcome State Fault Refusal :=
  .next (s.request m link tag .bindProfile none (ownBindProfile lane profile))

/-! ### Lane modes -/

/-- R180 step 2: the lane is in PAUSED, FAULTED or ABSENT with nothing in flight. -/
def Lane.modeMayChange (ln : Lane) : Bool :=
  (ln.state.name == .paused || ln.state.name == .faulted || ln.state.name == .absent) && ln.inflight.isEmpty

/-- R63, R123, R180: a lane is taken out of use. Its state becomes ABSENT, its lists are emptied, its fault reason,
flags and earmarks go, and its beat counter becomes 0; the counters stay, and no TICKET_DROPPED is posted. -/
def State.makeAbsent (s : State) (l : LaneId) : State :=
  let was := s.cueRow l
  let gone := (s.enter l .absent).modLane l (fun ln =>
    { ln with
      mode := .absent, records := [], tickets := [], pausePending := false, overfillPending := false,
      overfillDue := false, leadMark := false })
  (gone.modPace l (fun p => { p with beat := 0 })).showCue l was

/-- R63, R123, R180: a lane is brought into use in PAUSED, with empty lists and clear flags; it adopts its bound
profile on entering PAUSED. -/
def State.makePresent (s : State) (l : LaneId) (mode : LaneMode) : State :=
  (s.modLane l (fun ln =>
    { ln with
      mode := mode, records := [], tickets := [], pausePending := false, overfillPending := false,
      overfillDue := false, leadMark := false })).enter l .paused

/-- R143, R180: between AUTO and MANUAL: state, reason and lists stay; into MANUAL the pace starts, into AUTO the
beat counter becomes 0, and the cue follows. -/
def State.switchPacing (s : State) (l : LaneId) (mode : LaneMode) : State :=
  let was := s.cueRow l
  let set := s.modLane l (fun ln => { ln with mode := mode })
  let paced := set.modPace l (fun p => if mode = .manual then p.start else { p with beat := 0 })
  paced.showCue l was

/-- R180: the change of a lane's mode. -/
def State.changeMode (s : State) (l : LaneId) (mode : LaneMode) : State :=
  if (s.lane l).mode = mode then s
  else if mode = .absent then s.makeAbsent l
  else if (s.lane l).mode = .absent then s.makePresent l mode
  else s.switchPacing l mode

/-- R180. -/
def ownSetLaneMode (lane mode : Byte) (s : State) : Reply × Change :=
  match laneOf lane, laneModeOf mode with
  | some l, some md =>
    let ln := s.lane l
    if ln.modeMayChange = false then (.refuse .busy (.laneBusy ln.state.name ln.inflight.length), s.begin)
    else if ln.mode = .absent ∧ md ≠ .absent ∧ s.pst.geometry = none then (.refuse .wrongState, s.begin)
    else
      let set := s.changeMode l md
      (.okay (.laneMode l (set.lane l).mode (set.lane l).state.name), set.begin)
  | _, _ => (.refuse .badValue, s.begin)

/-- SET_LANE_MODE (R63, R123, R180). -/
def execSetLaneMode (m : Moment) (link : LinkId) (tag : Byte) (lane mode : Byte) (s : State) :
    Host.Outcome State Fault Refusal :=
  .next (s.request m link tag .setLaneMode none (ownSetLaneMode lane mode))

/-! ### Rotation, quotas, pace -/

/-- R126: the lanes that the slots carry, if none is above 7. -/
def slotsOf : List Byte → Option (List LaneId)
  | [] => some []
  | b :: bs =>
    match laneOf b, slotsOf bs with
    | some l, some ls => some (l :: ls)
    | _, _ => none

/-- R126: the weights of the eight lanes in a rotation list. -/
def weights (rotation : List LaneId) : Bank 8 Nat :=
  let w := weightOf rotation
  ⟨#v[w 0, w 1, w 2, w 3, w 4, w 5, w 6, w 7]⟩

/-- R126: the list is replaced whole and the position becomes 0. -/
def ownSetRotation (count : Byte) (slots : List Byte) (s : State) : Reply × Change :=
  match slotsOf slots with
  | none => (.refuse .badValue, s.begin)
  | some ls =>
    if Config.rotationPlaces < count.toNat ∨ ls.length ≠ count.toNat then (.refuse .badValue, s.begin)
    else
      (.okay (.rotation ls.length (weights ls)),
       State.begin { s with eal := { s.eal with rotation := ls, position := 0 } })

/-- SET_ROTATION (R126). -/
def execSetRotation (m : Moment) (link : LinkId) (tag : Byte) (count : Byte) (slots : List Byte) (s : State) :
    Host.Outcome State Fault Refusal :=
  .next (s.request m link tag .setRotation none (ownSetRotation count slots))

/-- R130: the reload value is set, clamped to 1,024, and a counter above it falls to it. -/
def ownSetQuota (lane : Byte) (quota : BitVec 16) (s : State) : Reply × Change :=
  match laneOf lane with
  | none => (.refuse .badValue, s.begin)
  | some l =>
    let q := min quota.toNat Config.quotaTop
    let set := s.modShare l (fun sh => { sh with reload := q, counter := min sh.counter q })
    (⟨.ok (decide (Config.quotaTop < quota.toNat)), .quota l q (set.share l).counter⟩, set.begin)

/-- SET_QUOTA (R130). -/
def execSetQuota (m : Moment) (link : LinkId) (tag : Byte) (lane : Byte) (quota : BitVec 16) (s : State) :
    Host.Outcome State Fault Refusal :=
  .next (s.request m link tag .setQuota none (ownSetQuota lane quota))

/-- R145: the interval, clamped into the bounds of the lane's active copy, becomes the pending interval. -/
def ownSetPace (lane interval : Byte) (s : State) : Reply × Change :=
  match laneOf lane with
  | none => (.refuse .badValue, s.begin)
  | some l =>
    let copy := (s.lane l).copy
    let x := copy.clampInterval interval.toNat
    let set := s.modPace l (fun p => { p with pending := x })
    (⟨.ok (decide (x ≠ interval.toNat)), .pace l x (set.paceOf l).active copy.mode⟩, set.begin)

/-- SET_PACE (R145), admitted from PLANNER, or from LANE for a lane in the window (R165). -/
def execSetPace (m : Moment) (link : LinkId) (tag : Byte) (lane interval : Byte) (s : State) :
    Host.Outcome State Fault Refusal :=
  .next (s.request m link tag .setPace (some lane) (ownSetPace lane interval))

end Sys2Proof.Machine
end

