-- ==== Sys2Proof/Machine/TrayRequests.lean ====
section
/-! DEFINITION. The requests on the tray map: DISABLE_TRAYS, ENABLE_TRAYS, MAP_READ, DISCHARGED, CLEAR_BLOCK (R37,
R39, R41, R43, R44). -/

namespace Sys2Proof.Machine

/-! ### Disabling and enabling -/

/-- The three counts of a DISABLE_TRAYS reply, as the request goes along the window (R41). -/
structure DisableCount where
  disabled : Nat
  pending : Nat
  revoked : Nat
  deriving DecidableEq, Repr

/-- R32, R41: a RESERVED tray whose holder is TRACKING: this tray becomes DISABLED, a pair partner is freed, and the
claim is revoked with reason TRAY_DISABLED. -/
def Change.disableReserved (ch : Change) (t : Nat) (holder : LaneId) (pair : Option Partner) : Change :=
  let gone := ch.modify (fun s => (pair.map Partner.tray).toList.foldl State.freeReserved (s.putTray t .disabled))
  gone.revoked holder .trayDisabled

/-- R41: one tray of the window. -/
def disableTray (acc : Change × DisableCount) (t : Nat) : Change × DisableCount :=
  let ch := acc.1
  let n := acc.2
  match ch.st.tray t with
  | .free _ => (ch.modify (fun s => s.putTray t .disabled), { n with disabled := n.disabled + 1 })
  | .blocked _ _ => (ch.modify (fun s => s.putTray t .disabled), { n with disabled := n.disabled + 1 })
  | .disabled => (ch, n)
  | .reserved holder pair d =>
    match (ch.st.lane holder).state with
    | .tracking _ =>
      (ch.disableReserved t holder pair, { n with disabled := n.disabled + 1, revoked := n.revoked + 1 })
    | _ =>
      (ch.modify (fun s => s.putTray t (Tray.setPending (.reserved holder pair d))),
       { n with pending := n.pending + 1 })
  | .launched ld p d =>
    (ch.modify (fun s => s.putTray t (Tray.setPending (.launched ld p d))), { n with pending := n.pending + 1 })
  | .loaded ld p k f d =>
    (ch.modify (fun s => s.putTray t (Tray.setPending (.loaded ld p k f d))), { n with pending := n.pending + 1 })
  | .unverified d =>
    (ch.modify (fun s => s.putTray t (Tray.setPending (.unverified d))), { n with pending := n.pending + 1 })

/-- The trays from `base` to `limit`, in increasing index order (R41, R43). -/
def windowTrays (base limit : Nat) : List Nat := (List.range (limit + 1 - base)).map (fun i => base + i)

/-- R41, R43: a tray window is refused with WRONG_STATE while no geometry record is accepted, and with BAD_VALUE if
base exceeds limit or either is N or more. -/
def State.badWindow (s : State) (base limit : Nat) : Option RefuseReason :=
  match s.pst.geometry with
  | none => some .wrongState
  | some g => if limit < base ∨ g.n ≤ base ∨ g.n ≤ limit then some .badValue else none

/-- R41. -/
def ownDisableTrays (base limit : BitVec 16) (s : State) : Reply × Change :=
  match s.badWindow base.toNat limit.toNat with
  | some reason => (.refuse reason, s.begin)
  | none =>
    let r := (windowTrays base.toNat limit.toNat).foldl disableTray (s.begin, ⟨0, 0, 0⟩)
    (.okay (.disabled r.2.disabled r.2.pending r.2.revoked), r.1)

/-- DISABLE_TRAYS (R41). -/
def execDisableTrays (m : Moment) (link : LinkId) (tag : Byte) (base limit : BitVec 16) (s : State) :
    Host.Outcome State Fault Refusal :=
  .next (s.request m link tag .disableTrays none (ownDisableTrays base limit))

/-- R43: one tray of the window: a DISABLED tray is made UNVERIFIED, disable pending is cleared, any other tray stays
as it was. The counts are the trays made UNVERIFIED and the marks cleared. -/
def enableTray (acc : State × Nat × Nat) (t : Nat) : State × Nat × Nat :=
  let s := acc.1
  let e := s.tray t
  if e = .disabled then (s.putTray t (Tray.unverify e), acc.2.1 + 1, acc.2.2)
  else if e.disablePending then (s.putTray t e.clearPending, acc.2.1, acc.2.2 + 1)
  else acc

/-- R43. -/
def ownEnableTrays (base limit : BitVec 16) (s : State) : Reply × Change :=
  match s.badWindow base.toNat limit.toNat with
  | some reason => (.refuse reason, s.begin)
  | none =>
    let r := (windowTrays base.toNat limit.toNat).foldl enableTray (s, 0, 0)
    (.okay (.enabled r.2.1 r.2.2), r.1.begin)

/-- ENABLE_TRAYS (R43). -/
def execEnableTrays (m : Moment) (link : LinkId) (tag : Byte) (base limit : BitVec 16) (s : State) :
    Host.Outcome State Fault Refusal :=
  .next (s.request m link tag .enableTrays none (ownEnableTrays base limit))

/-! ### Reading the map -/

/-- R44: the records of `count` trays from `base` on, wrapping from N−1 to 0, each with its tray's index. -/
def State.readMap (s : State) (n base count : Nat) : List (Nat × Tray) :=
  (List.range count).map (fun i => ((base + i) % n, s.tray ((base + i) % n)))

/-- R44. -/
def ownMapRead (base : BitVec 16) (count : Byte) (s : State) : Reply × Change :=
  match s.pst.geometry with
  | none => (.refuse .wrongState, s.begin)
  | some g =>
    if g.n ≤ base.toNat ∨ count.toNat < 1 ∨ 32 < count.toNat then (.refuse .badValue, s.begin)
    else
      (.okay (.map s.ltk.loop s.ltk.q s.ltk.revolution (s.readMap g.n base.toNat count.toNat)), s.begin)

/-- MAP_READ (R44). -/
def execMapRead (m : Moment) (link : LinkId) (tag : Byte) (base : BitVec 16) (count : Byte) (s : State) :
    Host.Outcome State Fault Refusal :=
  .next (s.request m link tag .mapRead none (ownMapRead base count))

/-! ### Discharge reports -/

/-- R37, R39: a tray index is refused with WRONG_STATE while no geometry record is accepted, and with BAD_VALUE when
it is N or more. -/
def State.badTray (s : State) (t : Nat) : Option RefuseReason :=
  match s.pst.geometry with
  | none => some .wrongState
  | some g => if g.n ≤ t then some .badValue else none

/-- R37: the report on tray `t` by its state. -/
def State.discharge (s : State) (t : Nat) : Reply × Change :=
  match s.tray t with
  | .loaded _ pair _ _ _ =>
    let named := pairTrays t pair
    let freed := named.foldl State.freeLoaded s
    (.okay (.trays (named.map (fun x => (x, (freed.tray x).state)))), freed.begin)
  | .unverified d =>
    let freed := s.putTray t (Tray.freed (.unverified d))
    (.okay (.trays [(t, (freed.tray t).state)]), freed.begin)
  | .blocked k c =>
    let made := s.putTray t (Tray.unverify (.blocked k c))
    (.okay (.trays [(t, (made.tray t).state)]), made.begin)
  | e => (.refuse .stale (.present e.state), s.begin)

/-- R37. -/
def ownDischarged (tray : BitVec 16) (s : State) : Reply × Change :=
  match s.badTray tray.toNat with
  | some reason => (.refuse reason, s.begin)
  | none => s.discharge tray.toNat

/-- DISCHARGED (R37). -/
def execDischarged (m : Moment) (link : LinkId) (tag : Byte) (tray : BitVec 16) (s : State) :
    Host.Outcome State Fault Refusal :=
  .next (s.request m link tag .discharged none (ownDischarged tray))

/-- R39. -/
def ownClearBlock (tray : BitVec 16) (s : State) : Reply × Change :=
  match s.badTray tray.toNat with
  | some reason => (.refuse reason, s.begin)
  | none =>
    match s.tray tray.toNat with
    | .blocked k c =>
      let made := s.putTray tray.toNat (Tray.unverify (.blocked k c))
      (.okay (.tray tray.toNat (made.tray tray.toNat).state), made.begin)
    | e => (.refuse .stale (.present e.state), s.begin)

/-- CLEAR_BLOCK (R39). -/
def execClearBlock (m : Moment) (link : LinkId) (tag : Byte) (tray : BitVec 16) (s : State) :
    Host.Outcome State Fault Refusal :=
  .next (s.request m link tag .clearBlock none (ownClearBlock tray))

end Sys2Proof.Machine
end

