-- ==== Sys2Proof/WellFormed.lean ====
section
/-! DEFINITION. Which commands the lines and links can carry. Every operand's width is its type's; what is left
is that a request's payload fits a frame (R162, R183) and that a line's edge has held long enough to be one (R1).
`exec` gives every command a meaning, well-formed or not. -/

namespace Sys2Proof

/-- A payload fits a frame: the Length byte, 2 more than the payload's bytes, is at most 252 (R162). -/
def payloadFits (bytes : Nat) : Bool := bytes + Config.lengthLow ≤ Config.lengthHigh

/-- R162, R183: a PING's bytes fit a frame. -/
def Request.WellFormed : Request → Bool
  | .ping bytes => payloadFits bytes.length
  | .setRotation _ slots => payloadFits (slots.length + 1)
  | _ => true

/-- The command is one the lines or links can carry. -/
def Instr.WellFormed : Instr → Bool
  | .encoderCount _ held _ => Config.encoderHold ≤ held
  | .homePulse _ held _ => Config.lineHold ≤ held
  | .lengthEyeLeadingEdge _ held _ => Config.lineHold ≤ held
  | .lengthEyeTrailingEdge _ held _ => Config.lineHold ≤ held
  | .holdEyeBlocked _ held _ => Config.lineHold ≤ held
  | .holdEyeCleared _ held _ => Config.lineHold ≤ held
  | .restartInput _ held => Config.restartHold ≤ held
  | .restartInputFall _ held => Config.lineHold ≤ held
  | .frameReceived _ _ _ _ payload _ => payloadFits payload.length
  | .ping _ _ _ bytes => payloadFits bytes.length
  | .setRotation _ _ _ _ slots => payloadFits (slots.length + 1)
  | _ => true

end Sys2Proof
end

