-- ==== Sys2Proof/Machine/LinkCommands.lean ====
section
/-! DEFINITION. The events of the station links themselves: a live timer's expiry (R169), the receiver's bytes,
frames and errors (R162, R163), and the sending of a queue's head frame (R171). -/

namespace Sys2Proof.Machine

/-! ### The live timer -/

/-- R169: a link lapses: its roles and window are dropped with the effects of R168, and LINK_LAPSED is posted, which
only a link that holds PLANNER after the drop receives. -/
def Change.lapse (ch : Change) (link : LinkId) (order : List LaneId) : Change :=
  let old := ch.st.link link
  (ch.dropRoles link order).post (.linkLapsed link old.planner old.discharge old.window)

/-- R169: the live timer of a link expires; one that is idle does not. -/
def State.liveExpires (s : State) (link : LinkId) (order : List LaneId) : State :=
  if (s.link link).live.isSome then (s.begin.lapse link order).finish else s

/-- LIVE_TIMER_EXPIRY (R168, R169). -/
def execLiveTimerExpiry (m : Moment) (link : LinkId) (s : State) : Host.Outcome State Fault Refusal :=
  .next ((s.clock m).liveExpires link m.laneOrder)

/-! ### Frames -/

/-- R164: the request that a valid frame carries is taken: each as its own row has it. -/
def runRequest (m : Moment) (link : LinkId) (tag : Byte) (r : Request) (s : State) :
    Host.Outcome State Fault Refusal :=
  match r with
  | .ping bytes => execPing m link tag bytes s
  | .status => execStatus m link tag s
  | .bind role base limit => execBind m link tag role base limit s
  | .unbind => execUnbind m link tag s
  | .setGeometry g => execSetGeometry m link tag g s
  | .writeProfile p w => execWriteProfile m link tag p w s
  | .readProfile p => execReadProfile m link tag p s
  | .bindProfile lane p => execBindProfile m link tag lane p s
  | .setLaneMode lane mode => execSetLaneMode m link tag lane mode s
  | .setRotation count slots => execSetRotation m link tag count slots s
  | .setQuota lane quota => execSetQuota m link tag lane quota s
  | .setPace lane interval => execSetPace m link tag lane interval s
  | .disableTrays base limit => execDisableTrays m link tag base limit s
  | .enableTrays base limit => execEnableTrays m link tag base limit s
  | .resync => execResync m link tag s
  | .restart => execRestart m link tag s
  | .mapRead base count => execMapRead m link tag base count s
  | .discharged tray => execDischarged m link tag tray s
  | .clearBlock tray => execClearBlock m link tag tray s
  | .arm lane => execArm m link tag lane s
  | .pause lane => execPause m link tag lane s
  | .clear lane => execClear m link tag lane s
  | .announce lane ticket => execAnnounce m link tag lane ticket s
  | .laneStatus lane => execLaneStatus m link tag lane s

/-- R163: a complete frame is valid when its CRC agrees and its Kind lies within 0x01 to 0x3F; a payload that no
Length of 2 to 252 gives is no frame (R162). -/
def frameValid (kind tag : Byte) (payload : List Byte) (crc : BitVec 16) : Bool :=
  payloadFits payload.length && crc == frameCrc kind tag payload && decide (1 ≤ kind.toNat ∧ kind.toNat ≤ 0x3F)

/-- The receiver of a link waits for a start byte (R162). -/
def State.hunt (s : State) (link : LinkId) : State := s.modLink link (fun k => { k with receiver := .hunting })

/-- R163, R164: a complete frame is checked, and the receiver returns to hunting. A frame that is not valid is
discarded and counted; a valid one is offered as a request. Bytes that the receiver holds when FRAME_RECEIVED brings a
whole frame are dropped, uncounted (DESIGN CHOICE, notes/assumptions/30.md). -/
def completeFrame (m : Moment) (link : LinkId) (kind tag : Byte) (payload : List Byte) (crc : BitVec 16) (s : State) :
    Host.Outcome State Fault Refusal :=
  if frameValid kind tag payload crc then
    match decodeRequest kind payload with
    | .unknown => .next ((s.hunt link).unknownRequest m link kind tag)
    | .badForm k => .next ((s.hunt link).badForm m link tag k)
    | .request r => runRequest m link tag r (s.hunt link)
  else .next ((s.clock m).modLink link Link.frameError)

/-- FRAME_RECEIVED (R163, R164). -/
def execFrameReceived (m : Moment) (link : LinkId) (kind tag : Byte) (payload : List Byte) (crc : BitVec 16)
    (s : State) : Host.Outcome State Fault Refusal :=
  completeFrame m link kind tag payload crc s

/-- FRAMING_ERROR (R162): a byte whose stop bit is missing. -/
def execFramingError (m : Moment) (link : LinkId) (s : State) : Host.Outcome State Fault Refusal :=
  .next ((s.clock m).modLink link Link.framingError)

/-- FRAME_GAP_TIMEOUT (R162): a gap of more than 100 µs within a frame. -/
def execFrameGapTimeout (m : Moment) (link : LinkId) (s : State) : Host.Outcome State Fault Refusal :=
  .next ((s.clock m).modLink link Link.framingError)

/-- FRAME_SENT (R171): the head frame's place is freed. -/
def execFrameSent (m : Moment) (link : LinkId) (s : State) : Host.Outcome State Fault Refusal :=
  .next ((s.clock m).modLink link (fun k => { k with queue := k.queue.tail }))

/-! ### Bytes -/

/-- R162: what a byte makes of the receiver: it waits, it goes on collecting, the frame ends as a framing error, or
the frame is complete, with its Kind, Tag, payload and CRC. -/
inductive Collected where
  | waiting
  | collecting (bytes : List Byte)
  | broken
  | complete (kind tag : Byte) (payload : List Byte) (crc : BitVec 16)
  deriving DecidableEq, Repr

/-- R162: the bytes taken since the start byte: first the Length, which must lie within 2 to 252, then Length bytes
of Kind, Tag and payload, then the two bytes of the CRC. -/
def collectBytes (bytes : List Byte) : Collected :=
  match bytes with
  | [] => .collecting []
  | len :: rest =>
    if len.toNat < Config.lengthLow ∨ Config.lengthHigh < len.toNat then .broken
    else if rest.length < len.toNat + 2 then .collecting (len :: rest)
    else
      match rest with
      | kind :: tag :: tail =>
        .complete kind tag (tail.take (len.toNat - 2))
          (joinTwo (tail.getD (len.toNat - 2) 0#8) (tail.getD (len.toNat - 1) 0#8))
      | _ => .broken

/-- R162: the receiver takes a byte: while hunting a byte of 0xA5 begins a frame and any other is discarded. -/
def Receiver.take (b : Byte) : Receiver → Collected
  | .hunting => if b = 0xA5#8 then .collecting [] else .waiting
  | .collecting bytes => collectBytes (bytes ++ [b])

/-- BYTE_RECEIVED (R162, R163). -/
def execByteReceived (m : Moment) (link : LinkId) (byte : Byte) (s : State) : Host.Outcome State Fault Refusal :=
  match (s.link link).receiver.take byte with
  | .waiting => .next (s.clock m)
  | .collecting bytes => .next ((s.clock m).modLink link (fun k => { k with receiver := .collecting bytes }))
  | .broken => .next ((s.clock m).modLink link Link.frameError)
  | .complete kind tag payload crc => completeFrame m link kind tag payload crc s

end Sys2Proof.Machine
end

