-- ==== Sys2Proof/Machine/Dispatch.lean ====
section
/-! DEFINITION. The dispatch of the commands, one arm per row of spec/opcode_table.json. -/

namespace Sys2Proof.Machine

/-- A command's effect on everything but the queue of commands that wait. -/
def exec (i : Instr) (s : State) : Host.Outcome State Fault Refusal :=
  match i with
  | .powerUp => Sys2Proof.Machine.execPowerUp s
  | .encoderCount m held eye => Sys2Proof.Machine.execEncoderCount m held eye s
  | .homePulse m held eye => Sys2Proof.Machine.execHomePulse m held eye s
  | .stallTimerExpiry m => Sys2Proof.Machine.execStallTimerExpiry m s
  | .lengthEyeLeadingEdge m held lane => Sys2Proof.Machine.execLengthEyeLeadingEdge m held lane s
  | .lengthEyeTrailingEdge m held lane => Sys2Proof.Machine.execLengthEyeTrailingEdge m held lane s
  | .holdEyeBlocked m held lane => Sys2Proof.Machine.execHoldEyeBlocked m held lane s
  | .holdEyeCleared m held lane => Sys2Proof.Machine.execHoldEyeCleared m held lane s
  | .holdClearTimeout m lane => Sys2Proof.Machine.execHoldClearTimeout m lane s
  | .restartInput m held => Sys2Proof.Machine.execRestartInput m held s
  | .liveTimerExpiry m link => Sys2Proof.Machine.execLiveTimerExpiry m link s
  | .frameReceived m link kind tag payload crc => Sys2Proof.Machine.execFrameReceived m link kind tag payload crc s
  | .framingError m link => Sys2Proof.Machine.execFramingError m link s
  | .frameGapTimeout m link => Sys2Proof.Machine.execFrameGapTimeout m link s
  | .frameSent m link => Sys2Proof.Machine.execFrameSent m link s
  | .ping m link tag bytes => Sys2Proof.Machine.execPing m link tag bytes s
  | .status m link tag => Sys2Proof.Machine.execStatus m link tag s
  | .bind m link tag role base limit => Sys2Proof.Machine.execBind m link tag role base limit s
  | .unbind m link tag => Sys2Proof.Machine.execUnbind m link tag s
  | .setGeometry m link tag g => Sys2Proof.Machine.execSetGeometry m link tag g s
  | .writeProfile m link tag profile w => Sys2Proof.Machine.execWriteProfile m link tag profile w s
  | .readProfile m link tag profile => Sys2Proof.Machine.execReadProfile m link tag profile s
  | .bindProfile m link tag lane profile => Sys2Proof.Machine.execBindProfile m link tag lane profile s
  | .setLaneMode m link tag lane mode => Sys2Proof.Machine.execSetLaneMode m link tag lane mode s
  | .setRotation m link tag count slots => Sys2Proof.Machine.execSetRotation m link tag count slots s
  | .setQuota m link tag lane quota => Sys2Proof.Machine.execSetQuota m link tag lane quota s
  | .setPace m link tag lane interval => Sys2Proof.Machine.execSetPace m link tag lane interval s
  | .disableTrays m link tag base limit => Sys2Proof.Machine.execDisableTrays m link tag base limit s
  | .enableTrays m link tag base limit => Sys2Proof.Machine.execEnableTrays m link tag base limit s
  | .resync m link tag => Sys2Proof.Machine.execResync m link tag s
  | .restart m link tag => Sys2Proof.Machine.execRestart m link tag s
  | .mapRead m link tag base count => Sys2Proof.Machine.execMapRead m link tag base count s
  | .discharged m link tag tray => Sys2Proof.Machine.execDischarged m link tag tray s
  | .clearBlock m link tag tray => Sys2Proof.Machine.execClearBlock m link tag tray s
  | .arm m link tag lane => Sys2Proof.Machine.execArm m link tag lane s
  | .pause m link tag lane => Sys2Proof.Machine.execPause m link tag lane s
  | .clear m link tag lane => Sys2Proof.Machine.execClear m link tag lane s
  | .announce m link tag lane ticket => Sys2Proof.Machine.execAnnounce m link tag lane ticket s
  | .laneStatus m link tag lane => Sys2Proof.Machine.execLaneStatus m link tag lane s
  | .byteReceived m link byte => Sys2Proof.Machine.execByteReceived m link byte s
  | .restartInputFall m held => Sys2Proof.Machine.execRestartInputFall m held s

end Sys2Proof.Machine
end

