-- ==== Sys2Proof/Safety.lean ====
section
/-! DEFINITION. The terms in which claims about the part are made: what a valid frame does before its request's
owner is reached, who holds what, which parts of the state a command leaves alone, and the invariants of the
machine. -/

namespace Sys2Proof.Machine

/-! ### A request on its way -/

/-- The state in which a request's owner finds the part: time has passed to the request's moment, and the valid
frame has restarted the link's live timer where it runs (R163). -/
def State.heard (s : State) (m : Moment) (link : LinkId) : State :=
  (s.clock m).modLink link (fun k => { k with live := k.live.map (fun _ => m.reading) })

/-- A reply joins the end of a link's transmit queue (R164). -/
def State.replied (s : State) (link : LinkId) (kind tag : Byte) (r : Reply) : State :=
  s.modLink link (fun k => { k with queue := k.queue ++ [.reply kind tag r] })

/-- R164 step 1: the link's transmit queue has a free place. -/
def State.hasRoom (s : State) (link : LinkId) : Prop := (s.link link).queue.length < 40

/-- R165: the lane lies within the link's window. -/
def State.holdsLane (s : State) (link : LinkId) (l : LaneId) : Prop :=
  ∃ w, (s.link link).window = some w ∧ w.base ≤ l ∧ l ≤ w.limit

/-- R165: the link holds no role. -/
def State.unbound (s : State) (link : LinkId) : Prop :=
  (s.link link).planner = false ∧ (s.link link).discharge = false ∧ (s.link link).window = none

/-- A lane's number, as a request carries it. -/
def laneByte (l : LaneId) : Byte := BitVec.ofNat 8 l.val

/-- An OK reply with no value clamped, and what follows it. -/
def okReply (body : ReplyBody) : Reply := ⟨.ok false, body⟩

/-- A refusal, and what follows it. -/
def refusal (reason : RefuseReason) (body : ReplyBody := .none) : Reply := ⟨.refused reason, body⟩

/-- Commands taken one after the other; the last one's outcome. -/
def State.runAll : List Instr → State → Host.Outcome State Fault Refusal
  | [], s => .next s
  | c :: cs, s =>
    match exec c s with
    | .next t => State.runAll cs t
    | .fault f => .fault f
    | .refused r => .refused r

/-- The state after notices are posted in order (R174). -/
def State.posting (s : State) (ns : List Notice) : State := ns.foldl State.post s

/-- A link holds PLANNER or DISCHARGE. -/
def State.masters (s : State) (link : LinkId) : Prop :=
  (s.link link).planner = true ∨ (s.link link).discharge = true

/-- R174: the table of notices: which links a notice is addressed to, by the roles and windows they hold. -/
def State.hears (s : State) (link : LinkId) : Notice → Prop
  | .state .. => ¬ s.unbound link
  | .slip _ => s.masters link
  | .markerMissing => s.masters link
  | .positionUntrusted => s.masters link
  | .resyncDone => s.masters link
  | .overspeed _ => s.masters link
  | .revolution _ => (s.link link).planner = true
  | .linkLapsed .. => (s.link link).planner = true
  | .load .. => (s.link link).discharge = true
  | .ghost .. => s.masters link
  | .reservedGhost .. => s.masters link
  | .lost .. => s.masters link
  | .recircLimit .. => s.masters link
  | .unverified .. => s.masters link
  | .resolved .. => s.masters link
  | .launched l .. => s.holdsLane link l
  | .claimReleased l .. => s.holdsLane link l
  | .laneFault l .. => s.holdsLane link l ∨ (s.link link).planner = true
  | .ticketDropped l _ => s.holdsLane link l

/-- R172, R174: from `s` to `t` a notice has joined the queue of every link that hears it and has room. -/
def State.tells (s t : State) (n : Notice) : Prop :=
  ∀ k, s.hears k n → (t.link k).queue.length < 32 → .notice n ∈ (t.link k).queue.drop (s.link k).queue.length

/-- R111: the ticket that a record carries, where it carries one. -/
def ParcelRecord.carried : ParcelRecord → Option Ticket
  | .measuring _ ticket => ticket
  | .onBelt p => p.ticket
  | .atHold p => p.ticket

/-- R111: a lane that has come to FAULTED from `s` to `t` has told its reason, how many records it has, and the ticket of
the head; trays and the ticket of a removed flight are named for JAM alone. -/
def State.tellsFault (s t : State) (l : LaneId) (trays : List Nat := []) (removed : Option Ticket := none) : Prop :=
  ∀ r, (t.lane l).state = .faulted r → s.tells t (.laneFault l r (t.lane l).records.length
    ((t.lane l).records.head?.bind ParcelRecord.carried) trays removed)

/-- R45: the trays of the map counted by state. -/
def State.traysByState (s : State) : TrayCounts :=
  { free := s.tmap.countP (fun e => e.state = .free), reserved := s.tmap.countP (fun e => e.state = .reserved),
    launched := s.tmap.countP (fun e => e.state = .launched), loaded := s.tmap.countP (fun e => e.state = .loaded),
    unverified := s.tmap.countP (fun e => e.state = .unverified),
    blocked := s.tmap.countP (fun e => e.state = .blocked),
    disabled := s.tmap.countP (fun e => e.state = .disabled) }

/-- R41: what DISABLE_TRAYS makes of a tray of its window that no TRACKING lane has RESERVED. -/
def Tray.withdrawn : Tray → Tray
  | .free _ => .disabled
  | .blocked _ _ => .disabled
  | .disabled => .disabled
  | .reserved h p _ => .reserved h p true
  | .launched ld p _ => .launched ld p true
  | .loaded ld p c f _ => .loaded ld p c f true
  | .unverified _ => .unverified true

/-- R41: how many trays of a list are FREE or BLOCKED, and so become DISABLED. -/
def State.idleTrays (s : State) (xs : List Nat) : Nat :=
  xs.countP (fun x => (s.tray x).state = .free ∨ (s.tray x).state = .blocked)

/-- R41: how many trays of a list are RESERVED, LAUNCHED, LOADED or UNVERIFIED, and so have disable pending. -/
def State.busyTrays (s : State) (xs : List Nat) : Nat :=
  xs.countP (fun x => (s.tray x).state = .reserved ∨ (s.tray x).state = .launched ∨ (s.tray x).state = .loaded
    ∨ (s.tray x).state = .unverified)

/-- R165: a link holds a role. -/
def State.holdsRole (s : State) (link : LinkId) : Role → Prop
  | .planner => (s.link link).planner = true
  | .discharge => (s.link link).discharge = true
  | .lane => (s.link link).window.isSome = true

end Sys2Proof.Machine

namespace Sys2Proof

/-- R165, the dispatch table: the roles whose holder may send a request. -/
def RequestKind.admittedRoles : RequestKind → List Machine.Role
  | .ping => [.planner, .discharge, .lane]
  | .status => [.planner, .discharge, .lane]
  | .bind => []
  | .unbind => [.planner, .discharge, .lane]
  | .setGeometry => [.planner]
  | .writeProfile => [.planner]
  | .readProfile => [.planner]
  | .bindProfile => [.planner]
  | .setLaneMode => [.planner]
  | .setRotation => [.planner]
  | .setQuota => [.planner]
  | .setPace => [.planner, .lane]
  | .disableTrays => [.planner]
  | .enableTrays => [.planner]
  | .resync => [.planner]
  | .restart => [.planner]
  | .mapRead => [.planner, .discharge]
  | .discharged => [.discharge]
  | .clearBlock => [.discharge, .planner]
  | .arm => [.lane]
  | .pause => [.lane]
  | .clear => [.lane]
  | .announce => [.lane]
  | .laneStatus => [.lane]

end Sys2Proof

namespace Sys2Proof.Machine

/-- R158: the record in force lies in the ranges of its table. -/
structure Geometry.InRange (g : Geometry) : Prop where
  n : 64 ≤ g.n ∧ g.n ≤ 1024
  c : 16 ≤ g.c ∧ g.c ≤ 1024
  sChk : g.sChk < g.n * g.c
  merge : ∀ l, g.merge.get l < g.n * g.c
  u : 200 ≤ g.u ∧ g.u ≤ 1600
  slipTol : g.slipTol ≤ 64 ∧ 4 * g.slipTol ≤ g.c
  pSlow : 200000 ≤ g.pSlow ∧ g.pSlow ≤ 4000000
  tStall : 200 ≤ g.tStall ∧ g.tStall ≤ 10000
  recircLimit : 1 ≤ g.recircLimit ∧ g.recircLimit ≤ 15

/-! ### Cues and maps -/

/-- R138, R139: a lane's cue is what the first row of R138 that holds gives, and PLACE or WAIT in the beat-driven
condition. -/
structure Lane.CueShown (loop : LoopState) (ln : Lane) (p : Pace) : Prop where
  idle : ln.mode ≠ .manual → p.cue = .dark
  paused : ln.mode = .manual → (ln.state = .paused ∨ ln.state = .absent) → p.cue = .dark
  faulted : ln.mode = .manual → ∀ r, ln.state = .faulted r → p.cue = .alert
  halted : ln.mode = .manual → ln.state ≠ .paused → ln.state ≠ .absent → (∀ r, ln.state ≠ .faulted r) →
    loop ≠ .running → p.cue = .wait
  driven : ln.mode = .manual → ln.state ≠ .paused → ln.state ≠ .absent → (∀ r, ln.state ≠ .faulted r) →
    loop = .running → p.cue = .place ∨ p.cue = .wait

/-- Every tray reads as before, and the Allocator holds what it held. -/
structure MapKept (s t : State) : Prop where
  tmap : t.tmap = s.tmap
  eal : t.eal = s.eal

/-! ### A count and what meets it -/

/-- R1, R49: the check eye's state at an event: the last of its levels that has held for 50 µs, or, where none has,
the state it had. -/
def State.eyeAfter (s : State) (eye : List EyeLevel) : Bool :=
  match (eye.filter (fun e => 50 ≤ e.held)).getLast? with
  | none => s.lines.checkEye
  | some e => e.occupied

/-- Time has passed to a count or a home pulse, and the check eye stands as it does there (R49). -/
def State.eyed (s : State) (m : Moment) (occupied : Bool) : State :=
  { s.clock m with lines := { s.lines with checkEye := occupied } }

/-- R2: the position that the next count brings. -/
def State.nextQ (s : State) (g : Geometry) : Nat := (s.ltk.q + 1) % (g.n * g.c)

/-- R2: a count by itself, in a loop that is not STOPPED: Q advances, a movement is in progress, the stall timer is
restarted, the marker is armed, and the recount span falls by 1. -/
def State.counted (s : State) (g : Geometry) (m : Moment) (occupied : Bool) : State :=
  { s.eyed m occupied with
    ltk := { s.ltk with
      q := s.nextQ g, movement := true, lastPitch := if s.ltk.movement then s.ltk.lastPitch else none,
      stall := some m.reading, armed := true, recount := s.ltk.recount - 1 } }

/-- R3 steps 1 to 3: the speed history after a pitch event at a reading. -/
def Ltk.historyAt (k : Ltk) (now : Micros) : List Nat :=
  match k.lastPitch with
  | none => k.history
  | some p => (k.history ++ [(now - p).toNat]).drop (k.history.length + 1 - 4)

/-- R2, R3: the speed history after a count that brings a pitch event: a movement that begins has no timestamp. -/
def State.pitchHistory (s : State) (now : Micros) : List Nat :=
  if s.ltk.movement then s.ltk.historyAt now else s.ltk.history

/-- R6: the OVERSPEED that the pitch event at a reading posts, where it posts one. -/
def State.overspeedAt (s : State) (now : Micros) : List Notice :=
  match s.pitchHistory now with
  | [i1, i2, i3, i4] =>
    if (i1 + i2 + i3 + i4 + 2) / 4 < 40000 ∧ s.ltk.overspeedArmed = true then
      [.overspeed ((i1 + i2 + i3 + i4 + 2) / 4)]
    else []
  | _ => []

/-- R84: the lane is in none of the states in which the Launch Calculator runs. -/
def State.atRest (s : State) (l : LaneId) : Prop :=
  (s.lane l).state = .absent ∨ (s.lane l).state = .paused ∨ ∃ r, (s.lane l).state = .faulted r

/-- R8: the loop is RUNNING, and the average at the pitch event that the next count brings is above P_slow. -/
def State.losesSpeed (s : State) (g : Geometry) (m : Moment) : Prop :=
  s.ltk.loop = .running ∧ ∃ i1 i2 i3 i4, s.pitchHistory m.reading = [i1, i2, i3, i4]
    ∧ g.pSlow < (i1 + i2 + i3 + i4 + 2) / 4

/-- R6: the overspeed arm after the pitch event at a reading. -/
def State.overspeedArmAt (s : State) (now : Micros) : Bool :=
  match s.pitchHistory now with
  | [i1, i2, i3, i4] => decide (40000 ≤ (i1 + i2 + i3 + i4 + 2) / 4)
  | _ => s.ltk.overspeedArmed

/-- R3, R8, R17, R84, R140: the pitch event that the next count brings finds no missing marker, leaves the loop in its
state but for the start of a movement, and asks nothing of any lane: each is at rest, or, not MANUAL, in IDLE or
RELEASING with no earmark behind its reach point, or the event does not carry RUNNING. -/
structure State.PitchPasses (s : State) (g : Geometry) (m : Moment) : Prop where
  window : s.nextQ g ≠ g.c ∨ s.ltk.windowOpen = false
  slow : s.ltk.loop = .stopped ∨ s.ltk.loop = .crawling →
    ∀ i1 i2 i3 i4, s.pitchHistory m.reading = [i1, i2, i3, i4] → g.pSlow < (i1 + i2 + i3 + i4 + 2) / 4
  fast : ¬ s.losesSpeed g m
  lanes : s.ltk.loop = .running → ∀ k, s.atRest k ∨
    ((s.lane k).mode ≠ .manual ∧ ((s.lane k).state = .idle ∨ ∃ a b, (s.lane k).state = .releasing a b)
      ∧ ∀ i1 i2 i3 i4, s.pitchHistory m.reading = [i1, i2, i3, i4] →
        MapKept s (s.handReach g k (s.nextQ g) (max 40000 ((i1 + i2 + i3 + i4 + 2) / 4)) .one 0))

/-- R2, R9: a count that finds the loop STOPPED finds every lane's cue as R138 has it there. -/
def State.CuesAtRest (s : State) : Prop :=
  s.ltk.loop = .stopped → ∀ l, Lane.CueShown .stopped (s.lane l) (s.paceOf l)

/-- R2, R3, R5, R6, R9, R17: a count, with the pitch event that it may bring, where that passes (State.PitchPasses): the
count as `counted` has it; from STOPPED the loop goes to CRAWLING with a STATE of cause MOTION; and at a pitch event the
reading is stored, its interval joins the history, the overspeed arm and the marker window stand as they do after it,
and its OVERSPEED is posted where it has one. -/
def State.arrived (s : State) (g : Geometry) (m : Moment) (occupied : Bool) : State :=
  let u := s.counted g m occupied
  let pitch := decide (s.nextQ g % g.c = 0)
  State.posting
    { u with
      ltk := { u.ltk with
        loop := if s.ltk.loop = .stopped then .crawling else s.ltk.loop
        lastPitch := if pitch then some m.reading else u.ltk.lastPitch
        history := if pitch then s.pitchHistory m.reading else s.ltk.history
        overspeedArmed := if pitch then s.overspeedArmAt m.reading else s.ltk.overspeedArmed
        windowOpen := if pitch && decide (s.ltk.loop ≠ .unsynced ∧ s.nextQ g = g.n * g.c - g.c) then true
          else s.ltk.windowOpen } }
    ((if s.ltk.loop = .stopped then [.state .stopped .crawling .motion] else [])
      ++ (if pitch then s.overspeedAt m.reading else []))

/-- R101, R106: no launch of a lane is due at a position, nor the merge of its oldest flight. -/
def State.laneQuietAt (s : State) (q : Nat) (l : LaneId) : Prop :=
  (∀ x, (s.lane l).state = .committed x → x.launch ≠ q) ∧
    (∀ e, (s.lane l).inflight.head? = some e → e.merge ≠ q)

/-- R4: the centre of tray `t` is at the check station when Q is `q`. -/
def Geometry.centreAt (g : Geometry) (t q : Nat) : Prop :=
  (q + g.n * g.c - g.sChk) % (g.n * g.c) = t * g.c + g.c / 2

/-- R4, R49: the next count brings tray `t` to its centre passage at the check station, in a loop that is not UNSYNCED
and with the span at 0; a pitch event may fall at it too, at which no marker is found missing. -/
structure State.PassesCentre (s : State) (g : Geometry) (held t : Nat) : Prop where
  geometry : s.pst.geometry = some g
  range : 64 ≤ g.n ∧ 16 ≤ g.c ∧ g.sChk < g.n * g.c
  held : 5 ≤ held
  synchronised : s.ltk.loop ≠ .unsynced
  offered : s.ltk.recount = 0
  tray : t < g.n
  centre : g.centreAt t (s.nextQ g)
  window : s.nextQ g ≠ g.c ∨ s.ltk.windowOpen = false

/-- R4, R49: the next count brings tray `t` to its centre passage and to nothing else: a pitch event that falls at it
passes, and no lane has anything due there. -/
structure State.Samples (s : State) (g : Geometry) (m : Moment) (held t : Nat) : Prop where
  passage : s.PassesCentre g held t
  cues : s.CuesAtRest
  pitch : s.nextQ g % g.c = 0 → s.PitchPasses g m
  quiet : ∀ l, s.laneQuietAt (s.nextQ g) l

/-- R12, R14: a marker that is taken as clean with d negative. -/
structure State.ForwardMarker (s : State) (g : Geometry) (held : Nat) : Prop where
  geometry : s.pst.geometry = some g
  range : g.InRange
  held : 50 ≤ held
  synchronised : s.ltk.loop ≠ .unsynced
  armed : s.ltk.armed = true
  position : s.ltk.q < g.n * g.c
  clean : g.n * g.c - s.ltk.q ≤ g.slipTol

/-- R14: a position that a marker with d negative offers: from old Q + 1 through NC − 1, and 0. -/
def State.onWay (s : State) (g : Geometry) (p : Nat) : Prop := (s.ltk.q < p ∧ p < g.n * g.c) ∨ p = 0

/-- R128: a lane is eligible for a tray. -/
def State.mayBeGranted (s : State) (l : LaneId) : Prop :=
  (s.lane l).mode ≠ .absent ∧ (s.lane l).state ≠ .absent ∧ (s.lane l).state ≠ .paused
    ∧ (∀ r, (s.lane l).state ≠ .faulted r) ∧ (s.lane l).records ≠ [] ∧ 0 < (s.share l).counter
    ∧ (s.share l).outstanding < (s.lane l).copy.cap

/-- R127: no slot of the rotation list names an eligible lane. -/
def State.nobodyEligible (s : State) : Prop := ∀ l ∈ s.eal.rotation, ¬ s.mayBeGranted l

/-- R127: slot `i` is the first of a walk whose lane, `l`, is eligible. -/
def State.walkFinds (s : State) (i : Nat) (l : LaneId) : Prop :=
  ∃ j, j < s.eal.rotation.length ∧ i = (s.eal.position + j) % s.eal.rotation.length
    ∧ s.eal.rotation[i]? = some l ∧ s.mayBeGranted l
    ∧ ∀ j' k, j' < j → s.eal.rotation[(s.eal.position + j') % s.eal.rotation.length]? = some k → ¬ s.mayBeGranted k

/-- R3, R8: the next count brings a pitch event that carries RUNNING and P_use `period` to lane `l`, alone of the
lanes at work, and no passage that anything watches. -/
structure State.RunningPitch (s : State) (g : Geometry) (m : Moment) (held period : Nat) (l : LaneId) : Prop where
  geometry : s.pst.geometry = some g
  range : g.InRange
  position : s.ltk.q < g.n * g.c
  held : 5 ≤ held
  running : s.ltk.loop = .running
  pitch : s.nextQ g % g.c = 0
  window : s.nextQ g ≠ g.c ∨ s.ltk.windowOpen = false
  speed : ∃ i1 i2 i3 i4, s.pitchHistory m.reading = [i1, i2, i3, i4]
    ∧ (i1 + i2 + i3 + i4 + 2) / 4 ≤ g.pSlow ∧ period = max 40000 ((i1 + i2 + i3 + i4 + 2) / 4)
  alone : ∀ k, k ≠ l → s.atRest k
  unwatched : ∀ t, ¬ g.centreAt t (s.nextQ g)
  quiet : ∀ k, s.laneQuietAt (s.nextQ g) k

/-! ### A lane's return (R97) -/

/-- The head stands at hold with disposition REJECT. -/
def Lane.headRejected (ln : Lane) : Prop := ∃ p rest, ln.records = .atHold p :: rest ∧ p.disposition = .reject

/-- R97, R107, R108: a lane that gives up its claim, or has it taken, ends in WAITING, or in what the substitutions put
in its place. -/
def Lane.EndsWaiting (ln : Lane) (final : LaneState) : Prop :=
  (ln.overfillDue = true → final = .faulted .overfill)
    ∧ (ln.overfillDue = false → ln.pausePending = true → final = .paused)
    ∧ (ln.overfillDue = false → ln.pausePending = false → ln.headRejected → final = .faulted .tooLong)
    ∧ (ln.overfillDue = false → ln.pausePending = false → ¬ ln.headRejected → final = .waiting)

/-- R78, R97: a lane that goes towards PAUSED ends there, or in FAULTED(OVERFILL) while the overfill fault is due. -/
def Lane.EndsPaused (ln : Lane) (final : LaneState) : Prop :=
  (ln.overfillDue = true → final = .faulted .overfill) ∧ (ln.overfillDue = false → final = .paused)

/-- R118: what becomes of the lanes that lose their link, and of all others, from `s` to `t` over a command's moment. -/
structure State.lanesLost (s : State) (m : Moment) (t : State) (lost : LaneId → Prop) : Prop where
  others : ∀ l, ¬ lost l → t.lane l = (s.clock m).lane l ∧ t.paceOf l = s.paceOf l
  atOnce : ∀ l, lost l →
    ((s.lane l).state = .idle ∨ (s.lane l).state = .waiting ∨ ∃ x, (s.lane l).state = .tracking x) →
    (s.lane l).EndsPaused (t.lane l).state
  later : ∀ l, lost l → ((∃ x, (s.lane l).state = .committed x) ∨ ∃ a b, (s.lane l).state = .releasing a b) →
    t.lane l = { (s.clock m).lane l with pausePending := true }
  resting : ∀ l, lost l → s.atRest l → t.lane l = (s.clock m).lane l
  lists : ∀ l, (t.lane l).records = (s.lane l).records ∧ (t.lane l).tickets = (s.lane l).tickets
    ∧ (t.lane l).inflight = (s.lane l).inflight
  freed : ∀ l x y h p d, lost l → (s.lane l).state = .tracking x → y ∈ x.trays → s.tray y = .reserved h p d →
    t.tray y = if d then .disabled else .free none

/-- R146: what an adoption of `new` in place of `old` makes of a lane's pacing. -/
structure Pace.Adopted (old new : Profile) (p p' : Pace) : Prop where
  kept : old.mode = new.mode → old.fixed = new.fixed → old.iMin = new.iMin → old.iMax = new.iMax → p' = p
  changed : ¬ (old.mode = new.mode ∧ old.fixed = new.fixed ∧ old.iMin = new.iMin ∧ old.iMax = new.iMax) →
    p'.pending = max new.iMin (min new.iMax (if new.mode = .fixed then new.fixed else p.pending))
      ∧ p'.active = max new.iMin (min new.iMax p.active) ∧ p'.beat = p.beat ∧ p'.cue = p.cue

/-! ### What a command leaves alone -/

/-- Every part of the state but the lanes, the pacing, the map with its earmark counts, and the links. -/
structure LoopKept (s t : State) : Prop where
  ltk : t.ltk = s.ltk
  csm : t.csm = s.csm
  pst : t.pst = s.pst
  lines : t.lines = s.lines
  micros : t.micros = s.micros
  pending : t.pending = s.pending

/-- Every tray reads as before but for earmarks of lane `l`, which may have gone, and the Allocator holds what it held
but for that lane's outstanding count (R133). -/
structure MapKeptButEarmarks (l : LaneId) (s t : State) : Prop where
  size : t.tmap.length = s.tmap.length
  trays : ∀ x, s.tray x ≠ .free (some l) → t.tray x = s.tray x
  earmarked : ∀ x, s.tray x = .free (some l) → t.tray x = .free (some l) ∨ t.tray x = .free none
  rotation : t.eal.rotation = s.eal.rotation
  position : t.eal.position = s.eal.position
  shares : ∀ k, k ≠ l → t.share k = s.share k
  quota : (t.share l).reload = (s.share l).reload ∧ (t.share l).counter = (s.share l).counter

/-- Every lane but `l` is as before, its pacing included. -/
structure OtherLanesKept (l : LaneId) (s t : State) : Prop where
  lanes : ∀ k, k ≠ l → t.lane k = s.lane k
  pace : ∀ k, k ≠ l → t.paceOf k = s.paceOf k

/-- Every link is as before but for notices that joined its queue, or were dropped there (R172). -/
structure LinksKeptButNotices (s t : State) : Prop where
  roles : ∀ k, (t.link k).planner = (s.link k).planner ∧ (t.link k).discharge = (s.link k).discharge
    ∧ (t.link k).window = (s.link k).window
  receiving : ∀ k, (t.link k).live = (s.link k).live ∧ (t.link k).receiver = (s.link k).receiver
    ∧ (t.link k).frameErrors = (s.link k).frameErrors ∧ (t.link k).overruns = (s.link k).overruns
  queue : ∀ k, ∃ ns : List Notice, (t.link k).queue = (s.link k).queue ++ ns.map .notice

/-! ### Invariants -/

/-- R171: a transmit queue never holds more than 40 entries, of which at most 32 are notices. -/
def OutFrame.isNotice : OutFrame → Bool
  | .notice _ => true
  | .reply .. => false

/-- R171. -/
def QueuesBounded (s : State) : Prop :=
  ∀ k, (s.link k).queue.length ≤ 40 ∧ ((s.link k).queue.filter OutFrame.isNotice).length ≤ 32

/-- R68, R73, R103: the lists of a lane. -/
structure Lane.ListsBounded (ln : Lane) : Prop where
  records : ln.records.length ≤ 4
  tickets : ln.tickets.length ≤ 8
  inflight : ln.inflight.length ≤ 4
  claiming : ln.state.solution?.isSome → ln.inflight.length < 4

/-- R68, R73, R103. -/
def ListsBounded (s : State) : Prop := ∀ l, (s.lane l).ListsBounded

/-- R131: each lane's outstanding count is the number of trays earmarked to it. R10, R136: the map holds no earmark
while the loop is not RUNNING. -/
structure EarmarksCounted (s : State) : Prop where
  outstanding : ∀ l, (s.share l).outstanding = countEarmarks l s.tmap
  running : s.ltk.loop ≠ .running → ∀ l, countEarmarks l s.tmap = 0

/-- R124, R125, R129: the rotation list, its position, and the quotas. -/
structure QuotasBounded (s : State) : Prop where
  slots : s.eal.rotation.length ≤ 16
  position : s.eal.position < s.eal.rotation.length ∨ s.eal.position = 0
  counter : ∀ l, (s.share l).counter ≤ (s.share l).reload
  reload : ∀ l, (s.share l).reload ≤ 1024

/-- R149: a record within its ranges. -/
structure Profile.InRange (p : Profile) : Prop where
  tXfer : 50000 ≤ p.tXfer ∧ p.tXfer ≤ 2000000
  vB : 300 ≤ p.vB ∧ p.vB ≤ 3000
  guard : 1 ≤ p.guard ∧ p.guard ≤ 8
  holdClearMs : 100 ≤ p.holdClearMs ∧ p.holdClearMs ≤ 10000
  minLength : 20 ≤ p.minLength ∧ p.minLength ≤ 300
  cap : 1 ≤ p.cap ∧ p.cap ≤ 8
  fixed : 1 ≤ p.fixed ∧ p.fixed ≤ 255
  iMin : 1 ≤ p.iMin
  iMax : p.iMax ≤ 255
  order : p.iMin ≤ p.iMax

/-- R137, R149, R153: every stored record and every active copy is within its ranges, a lane's copy is its bound
record while adoption pending is clear, and a lane's pacing is within the bounds of its copy. -/
structure ProfilesInForce (s : State) : Prop where
  stored : ∀ i, (s.profile i).InRange
  copied : ∀ l, (s.lane l).copy.InRange
  adopted : ∀ l, (s.lane l).adoptPending = false → (s.lane l).copy = s.profile (s.lane l).profile
  active : ∀ l, (s.lane l).copy.iMin ≤ (s.paceOf l).active ∧ (s.paceOf l).active ≤ (s.lane l).copy.iMax
  pending : ∀ l, (s.lane l).copy.iMin ≤ (s.paceOf l).pending ∧ (s.paceOf l).pending ≤ (s.lane l).copy.iMax
  beat : ∀ l, (s.paceOf l).beat ≤ 254

/-- R2, R5, R18, R23, R46: with a geometry record in force it is in range, the map has an entry for every tray and Q
lies on the ring; without one the map has no entry. The speed history holds at most four intervals; the
consecutive-slip count is at most 2, and 2 in UNSYNCED alone. -/
structure LoopSound (s : State) : Prop where
  without : s.pst.geometry = none → s.tmap = []
  within : ∀ g, s.pst.geometry = some g → g.InRange ∧ s.tmap.length = g.n ∧ s.ltk.q < g.n * g.c
  history : s.ltk.history.length ≤ 4
  slips : s.ltk.slips ≤ 1 ∨ (s.ltk.slips = 2 ∧ s.ltk.loop = .unsynced)

/-- R165: PLANNER and DISCHARGE are each held by at most one link, the windows of different links share no lane and
each has its base at most its limit, and a link's live timer runs exactly while it holds a role. -/
structure BindingsSound (s : State) : Prop where
  planner : ∀ j k, (s.link j).planner = true → (s.link k).planner = true → j = k
  discharge : ∀ j k, (s.link j).discharge = true → (s.link k).discharge = true → j = k
  windows : ∀ j k l, s.holdsLane j l → s.holdsLane k l → j = k
  order : ∀ k w, (s.link k).window = some w → w.base ≤ w.limit
  live : ∀ k, (s.link k).live = none ↔ s.unbound k

/-- R62, R63, R96: the mode and the state of a lane are ABSENT together, and an ABSENT lane holds no record, no ticket
and no flight. R156: nor is adoption pending there. R114: a pause is pending in COMMITTED and RELEASING alone. -/
structure Lane.Settled (ln : Lane) : Prop where
  together : ln.mode = .absent ↔ ln.state = .absent
  empty : ln.state = .absent → ln.records = [] ∧ ln.tickets = [] ∧ ln.inflight = []
  adopted : ln.state = .absent → ln.adoptPending = false
  pausing : ln.pausePending = true → (∃ x, ln.state = .committed x) ∨ (∃ a b, ln.state = .releasing a b)

/-- R137 to R139, R62, R96, R114: every lane is settled and shows its cue, and a lane that is not MANUAL has its beat
counter at 0. -/
structure LanesShown (s : State) : Prop where
  settled : ∀ l, (s.lane l).Settled
  cue : ∀ l, Lane.CueShown s.ltk.loop (s.lane l) (s.paceOf l)
  beat : ∀ l, (s.lane l).mode ≠ .manual → (s.paceOf l).beat = 0

end Sys2Proof.Machine
end

