-- ==== Sys2Proof/Certificates/Slice0/Obligations.lean ====
section
/-! DEFINITION. What is claimed of the part, each as a proposition over every state that meets its premises. -/

open Sys2Proof Sys2Proof.Machine

/-! ### The queue of commands, power-up, and every command -/

/-- A step is the command at the front of the queue, run with the queue's rest; with none waiting the part idles
(DESIGN CHOICE, notes/assumptions/4.md). -/
def Obligations.StepTakesTheFirstCommand : Prop :=
  (∀ (c : Instr) (s : State), step { s with pending := c :: s.pending } = exec c s) ∧
    ∀ s : State, s.pending = [] → step s = .next s

/-- Chapter 95: every command, in every state, answers a next state, and leaves the commands that wait as they are
(DESIGN CHOICE, notes/assumptions/4.md). -/
def Obligations.EveryCommandAnswersANextState : Prop :=
  ∀ (c : Instr) (s : State), ∃ t, exec c s = .next t ∧ t.pending = s.pending

/-- R21, R46, R61, R81, R96, R124, R137, R149, R182: the values after power-up. The last clause, on the microsecond
counter, the levels of the input lines and the queue of commands, is the model's choice (notes/assumptions/8.md,
9.md). -/
def Obligations.PowerUpGivesTheResetValues : Prop :=
  ∀ s : State, ∃ t, exec .powerUp s = .next t
    ∧ t.ltk = { loop := .unsynced, q := 0, movement := false, lastPitch := none, history := [], stall := none,
                slips := 0, resyncRequired := false, resyncPending := false, armed := true, windowOpen := false,
                recount := 0, overspeedArmed := true, revolution := 0 }
    ∧ t.tmap = [] ∧ t.csm = { fRev := 0, fPrev := 0 } ∧ t.pst.geometry = none
    ∧ t.eal.rotation = [] ∧ t.eal.position = 0
    ∧ (∀ l, t.share l = { reload := 1024, counter := 1024, outstanding := 0 })
    ∧ (∀ i, t.profile i = { tXfer := 800000, vB := 1500, guard := 2, holdClearMs := 2000, minLength := 50, cap := 2,
                            mode := .fixed, fixed := 8, iMin := 2, iMax := 60 })
    ∧ (∀ l, (t.lane l).mode = .absent ∧ (t.lane l).state = .absent ∧ (t.lane l).records = []
        ∧ (t.lane l).tickets = [] ∧ (t.lane l).inflight = [] ∧ (t.lane l).pausePending = false
        ∧ (t.lane l).overfillPending = false ∧ (t.lane l).overfillDue = false ∧ (t.lane l).leadMark = false
        ∧ (t.lane l).profile = 0 ∧ (t.lane l).copy = t.profile 0 ∧ (t.lane l).adoptPending = false
        ∧ (t.lane l).counters = { noReads := 0, glitches := 0, launches := 0, missed := 0, early := 0, idleBeats := 0 }
        ∧ (t.lane l).launchesRev = 0 ∧ (t.lane l).beltTime = 0
        ∧ (t.lane l).waitBelt = false ∧ (t.lane l).feedPermit = false)
    ∧ (∀ l, (t.paceOf l).beat = 0 ∧ (t.paceOf l).active = 8 ∧ (t.paceOf l).pending = 8 ∧ (t.paceOf l).cue = .dark
        ∧ (t.paceOf l).lamp = .off)
    ∧ (∀ k, t.link k = { planner := false, discharge := false, window := none, live := none, receiver := .hunting,
                         queue := [], overflow := false, frameErrors := 0, overruns := 0 })
    ∧ t.micros = 0 ∧ t.lines = s.lines ∧ t.pending = s.pending

/-- The state after reset meets every invariant below. -/
def Obligations.ResetMeetsTheInvariants : Prop :=
  QueuesBounded State.reset ∧ ListsBounded State.reset ∧ EarmarksCounted State.reset ∧ QuotasBounded State.reset
    ∧ ProfilesInForce State.reset ∧ LoopSound State.reset ∧ BindingsSound State.reset ∧ LanesShown State.reset

/-! ### Invariants that every step keeps -/

/-- R171: a transmit queue never holds more than 40 entries, of which at most 32 are notices. -/
def Obligations.StepKeepsTheQueuesBounded : Prop :=
  ∀ s t : State, QueuesBounded s → step s = .next t → QueuesBounded t

/-- R68, R73, R103: no lane's parcel list, pending ticket list or in-flight list grows past its places. -/
def Obligations.StepKeepsTheListsBounded : Prop :=
  ∀ s t : State, ListsBounded s → step s = .next t → ListsBounded t

/-- R10, R131: every lane's outstanding count is the number of trays earmarked to it, and the map holds no earmark
while the loop is not RUNNING. -/
def Obligations.StepKeepsTheEarmarksCounted : Prop :=
  ∀ s t : State, EarmarksCounted s → step s = .next t → EarmarksCounted t

/-- R124, R125, R129, R137, R149, R153: quotas, the rotation list, the stored profiles, the active copies and the
pace intervals stay within their ranges, and a copy is its bound record while adoption pending is clear. -/
def Obligations.StepKeepsTheSettingsInRange : Prop :=
  ∀ s t : State, QuotasBounded s ∧ ProfilesInForce s → step s = .next t → QuotasBounded t ∧ ProfilesInForce t

/-- R2, R5, R18, R46, R158: the geometry in force is in range, the map has an entry for every tray, Q stays on the
ring, the history holds at most four intervals, and a second marker failure leaves the loop UNSYNCED. -/
def Obligations.StepKeepsTheLoopSound : Prop :=
  ∀ s t : State, LoopSound s → step s = .next t → LoopSound t

/-- R165, R169: PLANNER and DISCHARGE each have at most one holder, windows share no lane, and a live timer runs
exactly while its link holds a role. -/
def Obligations.StepKeepsTheBindingsSound : Prop :=
  ∀ s t : State, BindingsSound s → step s = .next t → BindingsSound t

/-- R62, R96, R114, R137 to R139, R156: mode and state are ABSENT together, an ABSENT lane holds nothing and has no
adoption pending (that it has none when it enters ABSENT is notes/assumptions/17.md), a pause is pending
in COMMITTED and RELEASING alone, and every cue is the one its row gives. -/
def Obligations.StepKeepsTheLanesShown : Prop :=
  ∀ s t : State, LanesShown s → step s = .next t → LanesShown t

/-! ### Events that are not acted on -/

/-- R1, R2, R7, R11, R49, R62, R76, R105, R169: a level that does not hold long enough is no edge; a count or pulse
without a geometry record, a pulse that is not a marker, an edge at an ABSENT lane's eyes, and the expiry of an idle
timer change nothing else. In each case time passes to the command's reading, and an eye that has changed has its new
level. That a command carries the time its line has held, that the levels of the eyes are kept, and that time passes
at an event that is not acted on are the model's choices (notes/assumptions/7.md, 1.md, 2.md). -/
def Obligations.IgnoredEventsLetTimePass : Prop :=
  (∀ (m : Moment) (held : Nat) (eye : List EyeLevel) (s : State),
      (held < 5 → exec (.encoderCount m held eye) s = .next (s.eyed m (s.eyeAfter eye)))
      ∧ (held < 50 → exec (.homePulse m held eye) s = .next (s.eyed m (s.eyeAfter eye)))
      ∧ (held < 10000 → exec (.restartInput m held) s = .next (s.clock m))
      ∧ (held < 50 → exec (.restartInputFall m held) s = .next (s.clock m)))
  ∧ (∀ (m : Moment) (held : Nat) (l : LaneId) (s : State), held < 50 →
      exec (.lengthEyeLeadingEdge m held l) s = .next (s.clock m)
      ∧ exec (.lengthEyeTrailingEdge m held l) s = .next (s.clock m)
      ∧ exec (.holdEyeBlocked m held l) s = .next (s.clock m)
      ∧ exec (.holdEyeCleared m held l) s = .next (s.clock m))
  ∧ (∀ (m : Moment) (held : Nat) (eye : List EyeLevel) (s : State), s.pst.geometry = none →
      (5 ≤ held → exec (.encoderCount m held eye) s = .next (s.eyed m (s.eyeAfter eye)))
      ∧ (50 ≤ held → exec (.homePulse m held eye) s = .next (s.eyed m (s.eyeAfter eye))))
  ∧ (∀ (m : Moment) (held : Nat) (eye : List EyeLevel) (s : State), 50 ≤ held →
      (s.ltk.armed = false ∨ (s.ltk.loop = .unsynced ∧ s.ltk.resyncRequired = true ∧ s.ltk.resyncPending = false)) →
      exec (.homePulse m held eye) s = .next (s.eyed m (s.eyeAfter eye)))
  ∧ (∀ (m : Moment) (s : State), s.ltk.stall = none → exec (.stallTimerExpiry m) s = .next (s.clock m))
  ∧ (∀ (m : Moment) (l : LaneId) (s : State), (∀ a b, (s.lane l).state ≠ .releasing a b) →
      exec (.holdClearTimeout m l) s = .next (s.clock m))
  ∧ (∀ (m : Moment) (k : LinkId) (s : State), (s.link k).live = none →
      exec (.liveTimerExpiry m k) s = .next (s.clock m))
  ∧ (∀ (m : Moment) (held : Nat) (l : LaneId) (s : State), 50 ≤ held → (s.lane l).state = .absent →
      ((s.lines.lengthEye.get l = false → exec (.lengthEyeLeadingEdge m held l) s
          = .next { s.clock m with lines := { s.lines with lengthEye := s.lines.lengthEye.set l true } })
      ∧ (s.lines.lengthEye.get l = true → exec (.lengthEyeTrailingEdge m held l) s
          = .next { s.clock m with lines := { s.lines with lengthEye := s.lines.lengthEye.set l false } })
      ∧ (s.lines.holdEye.get l = false → exec (.holdEyeBlocked m held l) s
          = .next { s.clock m with lines := { s.lines with holdEye := s.lines.holdEye.set l true } })
      ∧ (s.lines.holdEye.get l = true → exec (.holdEyeCleared m held l) s
          = .next { s.clock m with lines := { s.lines with holdEye := s.lines.holdEye.set l false } })))

/-! ### Counts, pitch events and loop states -/

/-- R2, R3: a taken count, in every state that has a geometry record. Q advances by one on the ring, a movement is in
progress, the stall timer is restarted, the marker is armed and the recount span falls by 1; a pitch event stores
its reading and adds its interval to the history, and another count leaves both. In STOPPED the loop first goes to
CRAWLING, with a STATE of cause MOTION (R9); a count that brings no pitch event else leaves the loop in its state, and
no STATE is posted where the loop ends in the state it had. -/
def Obligations.CountAdvancesThePosition : Prop :=
  ∀ (m : Moment) (held : Nat) (eye : List EyeLevel) (s : State) (g : Geometry), s.pst.geometry = some g → 5 ≤ held →
    ∃ t, exec (.encoderCount m held eye) s = .next t
      ∧ t.ltk.q = (s.ltk.q + 1) % (g.n * g.c) ∧ t.ltk.movement = true ∧ t.ltk.stall = some m.reading
      ∧ t.ltk.armed = true ∧ t.ltk.recount = s.ltk.recount - 1 ∧ t.ltk.revolution = s.ltk.revolution
      ∧ (t.ltk.q % g.c = 0 → t.ltk.lastPitch = some m.reading ∧ t.ltk.history = s.pitchHistory m.reading)
      ∧ (t.ltk.q % g.c ≠ 0 → t.ltk.history = s.ltk.history
          ∧ t.ltk.lastPitch = if s.ltk.movement then s.ltk.lastPitch else none)
      ∧ t.ltk.loop ≠ .stopped ∧ (s.ltk.loop = .stopped → s.tells t (.state .stopped .crawling .motion))
      ∧ (t.ltk.q % g.c ≠ 0 → t.ltk.loop = if s.ltk.loop = .stopped then .crawling else s.ltk.loop)
      ∧ (t.ltk.loop = s.ltk.loop → ∀ k old new cause,
          .notice (.state old new cause) ∉ (t.link k).queue.drop (s.link k).queue.length)
      ∧ t.pst = s.pst ∧ t.lines = { s.lines with checkEye := s.eyeAfter eye } ∧ t.micros = m.reading
      ∧ t.eal.rotation = s.eal.rotation ∧ t.csm.fPrev = s.csm.fPrev ∧ LinksKeptButNotices s t

/-- R2, R3, R4, R9: a count that reaches nothing that is watched, or is withheld by the recount span, is the count
alone, with the pitch event it may bring where that passes: every lane, tray and figure stays, and every link but for
a STATE of cause MOTION from STOPPED and the OVERSPEED of the event. (From STOPPED: with every cue as R138 has it
there, which StepKeepsTheLanesShown keeps.) -/
def Obligations.QuietCountTouchesTheTrackerAlone : Prop :=
  ∀ (m : Moment) (held : Nat) (eye : List EyeLevel) (s : State) (g : Geometry), s.pst.geometry = some g → 5 ≤ held →
    0 < g.c → g.sChk < g.n * g.c → s.CuesAtRest → (s.nextQ g % g.c = 0 → s.PitchPasses g m) →
    (0 < s.ltk.recount ∨
      ((s.ltk.loop = .unsynced ∨ ∀ t, ¬ g.centreAt t (s.nextQ g)) ∧ ∀ l, s.laneQuietAt (s.nextQ g) l)) →
    exec (.encoderCount m held eye) s = .next (s.arrived g m (s.eyeAfter eye))

/-- R2, R3, R5, R6, R8, R9, R10, R17: the loop state after a count that brings a pitch event (one at which no missing
marker is found), with the STATE of cause SPEED that goes with it; and the overspeed arm: an average below 40,000 µs
posts OVERSPEED once, and one of 40,000 µs or more arms it again. From RUNNING to CRAWLING every lane in TRACKING or
COMMITTED gives up its claim with reason LOOP_NOT_RUNNING, its trays freed, and every earmark goes; the flights do not
(a freed tray whose centre passes at that same count is sampled too, and is left open here). That OVERSPEED stands
before every notice of another block is the model's choice, R174 letting either stand first (notes/assumptions/11.md),
and so is that it stands before the STATE of cause SPEED (notes/assumptions/32.md). -/
def Obligations.PitchEventMovesTheLoopBySpeed : Prop :=
  ∀ (m : Moment) (held : Nat) (eye : List EyeLevel) (s : State) (g : Geometry), s.pst.geometry = some g → 5 ≤ held →
    s.nextQ g % g.c = 0 → (s.nextQ g ≠ g.c ∨ s.ltk.windowOpen = false) →
    ∃ t, exec (.encoderCount m held eye) s = .next t
      ∧ (s.ltk.loop = .unsynced → t.ltk.loop = .unsynced)
      ∧ (∀ i1 i2 i3 i4, s.pitchHistory m.reading = [i1, i2, i3, i4] → s.ltk.loop ≠ .unsynced →
          ((i1 + i2 + i3 + i4 + 2) / 4 ≤ g.pSlow → t.ltk.loop = .running)
          ∧ (g.pSlow < (i1 + i2 + i3 + i4 + 2) / 4 → t.ltk.loop = .crawling))
      ∧ ((s.pitchHistory m.reading).length ≠ 4 → s.ltk.loop ≠ .unsynced → s.ltk.loop ≠ .running →
          t.ltk.loop = .crawling)
      ∧ ((s.pitchHistory m.reading).length ≠ 4 → s.ltk.loop = .running → t.ltk.loop = .running)
      ∧ (s.nextQ g = g.n * g.c - g.c → t.ltk.loop ≠ .unsynced → t.ltk.windowOpen = true)
      ∧ (∀ i1 i2 i3 i4 avg, s.pitchHistory m.reading = [i1, i2, i3, i4] → avg = (i1 + i2 + i3 + i4 + 2) / 4 →
          (40000 ≤ avg → t.ltk.overspeedArmed = true)
          ∧ (avg < 40000 → t.ltk.overspeedArmed = false
              ∧ (s.ltk.overspeedArmed = true → ∀ (k : LinkId) (begun : List Notice),
                begun = (if s.ltk.loop = .stopped then [.state .stopped .crawling .motion] else []) →
                s.masters k → (s.link k).queue.length + begun.length < 32 →
                (s.link k).queue ++ (begun ++ [Notice.overspeed avg]).map .notice <+: (t.link k).queue)))
      ∧ ((s.pitchHistory m.reading).length ≠ 4 → t.ltk.overspeedArmed = s.ltk.overspeedArmed)
      ∧ (s.overspeedAt m.reading = [] → ∀ k, ∃ ns : List Notice,
          (t.link k).queue = (s.link k).queue ++ ns.map .notice ∧ ∀ p, Notice.overspeed p ∉ ns)
      ∧ (∀ i1 i2 i3 i4, s.pitchHistory m.reading = [i1, i2, i3, i4] → (i1 + i2 + i3 + i4 + 2) / 4 ≤ g.pSlow →
          s.ltk.loop = .crawling ∨ s.ltk.loop = .stopped → s.tells t (.state .crawling .running .speed))
      ∧ (s.losesSpeed g m →
          s.tells t (.state .running .crawling .speed)
          ∧ (∀ l x, (s.lane l).state.solution? = some x →
              (s.lane l).EndsWaiting (t.lane l).state ∧ s.tellsFault t l
              ∧ s.tells t (.claimReleased l .loopNotRunning (some x.tray) x.partner (t.lane l).state.name)
              ∧ ∀ y h p d, y ∈ x.trays → s.tray y = .reserved h p d → g.InRange →
                  ¬ g.centreAt y (s.nextQ g) →
                  t.tray y = if d then .disabled else .free none)
          ∧ (∀ l, (t.lane l).state.solution? = none ∧ (t.lane l).records = (s.lane l).records)
          ∧ (∀ l, (s.lane l).state.solution? = none → (t.lane l).state = (s.lane l).state)
          ∧ (∀ l, (∀ e, (s.lane l).inflight.head? = some e → e.merge ≠ s.nextQ g) →
              (t.lane l).inflight = (s.lane l).inflight)
          ∧ (∀ y, (t.tray y).earmark = none) ∧ ∀ l, (t.share l).outstanding = 0)

/-- R7, R9, R10: a running stall timer expires. In UNSYNCED only the movement and the speed figures go; CRAWLING and
RUNNING go to STOPPED with a STATE notice first; from RUNNING every claim is released with reason LOOP_NOT_RUNNING,
every earmark goes, and the flights go on. That STATE stands first in every queue, before the CLAIM_RELEASED and
LANE_FAULT of the same change, is the model's choice: R174 lets either stand first (notes/assumptions/11.md). -/
def Obligations.StallEndsTheMovement : Prop :=
  (∀ (m : Moment) (s : State) (r : Micros), s.ltk.stall = some r → s.ltk.loop = .unsynced →
    exec (.stallTimerExpiry m) s = .next { s.clock m with
      ltk := { s.ltk with stall := none, movement := false, history := [], lastPitch := none,
                          overspeedArmed := true } })
  ∧ (∀ (m : Moment) (s : State) (r : Micros), s.ltk.stall = some r → s.ltk.loop = .crawling ∨ s.ltk.loop = .running →
    ∃ t, exec (.stallTimerExpiry m) s = .next t
      ∧ t.ltk = { s.ltk with loop := .stopped, stall := none, movement := false, history := [], lastPitch := none,
                             overspeedArmed := true }
      ∧ t.csm = s.csm ∧ t.pst = s.pst ∧ t.lines = s.lines ∧ t.micros = m.reading ∧ t.pending = s.pending
      ∧ t.eal.rotation = s.eal.rotation ∧ t.eal.position = s.eal.position ∧ LinksKeptButNotices s t
      ∧ (∀ k, ¬ s.unbound k → (s.link k).queue.length < 32 →
          (s.link k).queue ++ [.notice (.state s.ltk.loop .stopped .stall)] <+: (t.link k).queue)
      ∧ (∀ l, (t.lane l).inflight = (s.lane l).inflight ∧ (t.lane l).records = (s.lane l).records)
      ∧ (∀ l, (s.lane l).state.solution? = none → t.lane l = (s.clock m).lane l)
      ∧ (s.ltk.loop = .crawling → t.lanes = (s.clock m).lanes ∧ MapKept s t)
      ∧ (s.ltk.loop = .running →
          (∀ l, (t.share l) = { s.share l with outstanding := 0 })
          ∧ (∀ l x, (s.lane l).state.solution? = some x → (s.lane l).EndsWaiting (t.lane l).state ∧ s.tellsFault t l
              ∧ s.tells t (.claimReleased l .loopNotRunning (some x.tray) x.partner (t.lane l).state.name)
              ∧ ∀ y h p d, y ∈ x.trays → s.tray y = .reserved h p d →
                  t.tray y = if d then .disabled else .free none)
          ∧ (∀ y, (∀ l x, (s.lane l).state.solution? = some x → y ∉ x.trays) → ∀ e, s.tray y = e →
              t.tray y = match e with
                | .free _ => .free none
                | e => e)))

/-! ### The home marker -/

/-- R11, R12, R15, R20: a marker taken at d = 0 or with d positive and clean. Q becomes 0 and the span becomes d; the
pace's pending intervals may be recomputed (R147), the tally is closed (R58), the quotas are reloaded (R129), and
everything else stays. -/
def Obligations.CleanMarkerMovesQBack : Prop :=
  ∀ (m : Moment) (held : Nat) (eye : List EyeLevel) (s : State) (g : Geometry), s.pst.geometry = some g → 50 ≤ held →
    s.ltk.loop ≠ .unsynced → s.ltk.armed = true → s.ltk.q ≤ g.slipTol → 2 * s.ltk.q + 1 < g.n * g.c →
    ∃ t, exec (.homePulse m held eye) s = .next t
      ∧ t.ltk = { s.ltk with q := 0, recount := if s.ltk.q = 0 then s.ltk.recount else s.ltk.q, slips := 0,
                             armed := false, windowOpen := false, revolution := s.ltk.revolution + 1 }
      ∧ t.tmap = s.tmap ∧ t.csm = { fRev := 0, fPrev := s.csm.fRev } ∧ t.pst = s.pst
      ∧ t.eal.rotation = s.eal.rotation ∧ t.eal.position = s.eal.position
      ∧ (∀ l, t.share l = { s.share l with counter := (s.share l).reload })
      ∧ (∀ l, t.lane l = { (s.clock m).lane l with launchesRev := 0 })
      ∧ (∀ l, t.paceOf l = { s.paceOf l with pending := (t.paceOf l).pending })
      ∧ t.lines = { s.lines with checkEye := s.eyeAfter eye } ∧ t.micros = m.reading ∧ t.pending = s.pending
      ∧ LinksKeptButNotices s t

/-- R12, R14: a clean marker with d negative. Q comes to 0 with a pitch event, which stores its reading and adds its
interval where there is a timestamp; the consecutive-slip count is 0 and the span stays. That the reading is stored
also in STOPPED, and that a span still running stays, are the model's readings of R3 and R14
(notes/assumptions/22.md, 27.md). -/
def Obligations.CleanMarkerMovesQForward : Prop :=
  ∀ (m : Moment) (held : Nat) (eye : List EyeLevel) (s : State) (g : Geometry), s.pst.geometry = some g → g.InRange →
    50 ≤ held → s.ltk.loop ≠ .unsynced → s.ltk.armed = true → s.ltk.q < g.n * g.c →
    g.n * g.c - s.ltk.q ≤ g.slipTol →
    ∃ t, exec (.homePulse m held eye) s = .next t
      ∧ t.ltk.q = 0 ∧ t.ltk.slips = 0 ∧ t.ltk.armed = false ∧ t.ltk.windowOpen = false
      ∧ t.ltk.recount = s.ltk.recount ∧ t.ltk.movement = s.ltk.movement ∧ t.ltk.stall = s.ltk.stall
      ∧ t.ltk.lastPitch = some m.reading ∧ t.ltk.history = s.ltk.historyAt m.reading
      ∧ t.ltk.revolution = s.ltk.revolution + 1
      ∧ (∀ i1 i2 i3 i4, s.ltk.historyAt m.reading = [i1, i2, i3, i4] →
          (s.ltk.loop = .crawling → (i1 + i2 + i3 + i4 + 2) / 4 ≤ g.pSlow → t.ltk.loop = .running)
          ∧ (s.ltk.loop = .running → g.pSlow < (i1 + i2 + i3 + i4 + 2) / 4 → t.ltk.loop = .crawling)
          ∧ (s.ltk.loop = .crawling → g.pSlow < (i1 + i2 + i3 + i4 + 2) / 4 → t.ltk.loop = .crawling)
          ∧ (s.ltk.loop = .running → (i1 + i2 + i3 + i4 + 2) / 4 ≤ g.pSlow → t.ltk.loop = .running))
      ∧ (s.ltk.loop = .stopped → t.ltk.loop = .stopped)
      ∧ t.pst = s.pst ∧ LinksKeptButNotices s t

/-- R4, R14, R34, R50, R55, R58, R101, R106: what a clean marker with d negative meets on its way. A COMMITTED lane
whose launch point lies on it fires, a flight whose merge position lies on it lands, and a tray whose centre passes on
it is sampled with the eye's state at the marker, before the tally is closed. While a recount span runs, which such a
marker leaves (notes/assumptions/27.md), nothing on the way is acted on. That the LAUNCHED of a fire on the way stands
before the marker's other notices is the model's choice (notes/assumptions/11.md), and so is that the pitch event at 0
comes before the offer of 0 (notes/assumptions/33.md): for a launch point of 0 it is asked to leave the loop RUNNING. -/
def Obligations.ForwardCorrectionOffersTheWay : Prop :=
  ∀ (m : Moment) (held : Nat) (eye : List EyeLevel) (s : State) (g : Geometry), s.ForwardMarker g held →
    (∀ (l : LaneId) (x : Solution) (p : Measured) (rest : List ParcelRecord), s.ltk.recount = 0 →
      (∀ q t, s.onWay g q → ¬ g.centreAt t q) → (∀ k, k ≠ l → s.atRest k ∧ ∀ q, s.onWay g q → s.laneQuietAt q k) →
      (s.lane l).state = .committed x → s.onWay g x.launch → ¬ s.onWay g x.merge →
      (x.launch ≠ 0 ∨ ∀ i1 i2 i3 i4, s.ltk.historyAt m.reading = [i1, i2, i3, i4] →
        (i1 + i2 + i3 + i4 + 2) / 4 ≤ g.pSlow) →
      (∀ e, (s.lane l).inflight.head? = some e → ¬ s.onWay g e.merge) → (s.lane l).records = .atHold p :: rest →
      s.holdBlocked l = true →
      ∃ t, exec (.homePulse m held eye) s = .next t
        ∧ (t.lane l).state = .releasing m.reading (s.lane l).copy.holdClearMs ∧ (t.lane l).records = rest
        ∧ (t.lane l).inflight = (s.lane l).inflight ++ [{
            tray := x.tray, partner := x.partner, ticket := p.ticket, length := p.length, merge := x.merge,
            holdClear := false }]
        ∧ (t.lane l).counters.launches = min ((s.lane l).counters.launches + 1) 65535
        ∧ (∀ y h pr d, y ∈ x.trays → s.tray y = .reserved h pr d →
            t.tray y = .launched { holder := l, ticket := p.ticket, length := p.length } pr d)
        ∧ (∀ k, x.launch ≠ 0 → s.holdsLane k l → (s.link k).queue.length < 32 →
            (s.link k).queue ++ [.notice (.launched l x.tray x.partner p.ticket p.length)] <+: (t.link k).queue))
    ∧ (∀ (l : LaneId) (e : InFlight) (later : List InFlight), s.ltk.recount = 0 →
      (∀ q t, s.onWay g q → ¬ g.centreAt t q) → (∀ k, k ≠ l → s.atRest k ∧ ∀ q, s.onWay g q → s.laneQuietAt q k) →
      (s.lane l).state.solution? = none → (s.lane l).inflight = e :: later → s.onWay g e.merge →
      (∀ e', later.head? = some e' →
        ¬ s.onWay g e'.merge ∧ 0 < signedDistance (g.n * g.c) e.merge e'.merge) →
      ∃ t, exec (.homePulse m held eye) s = .next t ∧ (t.lane l).inflight = later
        ∧ (∀ y ld p d, y ∈ e.trays → s.tray y = .launched ld p d →
            t.tray y = if e.holdClear then .loaded (some ld) p 0 true d else .unverified d))
    ∧ (∀ q x : Nat, s.ltk.recount = 0 → (∀ k, s.atRest k ∧ ∀ q, s.onWay g q → s.laneQuietAt q k) →
      s.onWay g q → x < g.n → g.centreAt x q →
      ∃ t, exec (.homePulse m held eye) s = .next t ∧ t.csm.fRev = 0
        ∧ (∀ mark, s.tray x = .free mark → s.eyeAfter eye = false → t.csm.fPrev = min (s.csm.fRev + 1) g.n)
        ∧ (∀ mark, s.tray x = .free mark → s.eyeAfter eye = true →
            t.csm.fPrev = s.csm.fRev ∧ t.tray x = .blocked 0 .ghost)
        ∧ (∀ d, x < s.tmap.length → s.tray x = .unverified d → s.eyeAfter eye = true →
            t.csm.fPrev = s.csm.fRev ∧ t.tray x = .loaded none none 0 false d))
    ∧ (0 < s.ltk.recount →
      ∃ t, exec (.homePulse m held eye) s = .next t ∧ t.csm.fPrev = s.csm.fRev
        ∧ ∀ l, (∀ x, (s.lane l).state ≠ .tracking x) → (t.lane l).inflight = (s.lane l).inflight
          ∧ (t.lane l).counters.launches = (s.lane l).counters.launches
          ∧ (t.lane l).records = (s.lane l).records)

/-- R12, R16, R18: a slip. Claims, flights and earmarks are gone, Q is 0, a positive d makes the recount span, the
movement ends and the history stays; the loop keeps its state, or escalates when this is the second failure. SLIP with
d, a CLAIM_RELEASED for each claim, an UNVERIFIED for each flight and, at the escalation, STATE and POSITION_UNTRUSTED
join the queues of the links that hear them (R174) and have room. That UNVERIFIED goes to PLANNER also, and that a
slip with d negative leaves a span still running, are the model's readings of R16 (notes/assumptions/18.md, 27.md). -/
def Obligations.SlipTakesTheSlipActions : Prop :=
  ∀ (m : Moment) (held : Nat) (eye : List EyeLevel) (s : State) (g : Geometry) (d : Int),
    s.pst.geometry = some g → 50 ≤ held →
    s.ltk.loop ≠ .unsynced → s.ltk.armed = true → s.ltk.q < g.n * g.c →
    (2 * s.ltk.q + 1 < g.n * g.c ∧ d = s.ltk.q ∨ g.n * g.c ≤ 2 * s.ltk.q ∧ d = (s.ltk.q : Int) - (g.n * g.c : Nat)) →
    g.slipTol < d.natAbs →
    ∃ t, exec (.homePulse m held eye) s = .next t
      ∧ t.ltk.q = 0 ∧ t.ltk.recount = (if 0 < d then d.toNat else s.ltk.recount) ∧ t.ltk.movement = false
      ∧ t.ltk.lastPitch = none ∧ t.ltk.history = s.ltk.history ∧ t.ltk.slips = s.ltk.slips + 1
      ∧ t.ltk.armed = false ∧ t.ltk.windowOpen = false ∧ t.ltk.revolution = s.ltk.revolution + 1
      ∧ t.ltk.stall = s.ltk.stall
      ∧ (s.ltk.slips = 0 → t.ltk.loop = s.ltk.loop ∧ t.ltk.resyncRequired = s.ltk.resyncRequired)
      ∧ (s.ltk.slips = 1 → t.ltk.loop = .unsynced ∧ t.ltk.resyncRequired = true ∧ t.ltk.resyncPending = false)
      ∧ (∀ l, (t.lane l).state.solution? = none ∧ (t.lane l).inflight = [] ∧ (t.lane l).records = (s.lane l).records)
      ∧ (∀ l x, (s.lane l).state.solution? = some x → (s.lane l).EndsWaiting (t.lane l).state)
      ∧ (∀ l, (s.lane l).state.solution? = none → (t.lane l).state = (s.lane l).state)
      ∧ (∀ x, (t.tray x).earmark = none) ∧ (∀ l, (t.share l).outstanding = 0)
      ∧ (∀ l x y h p dp, (s.lane l).state.solution? = some x → y ∈ x.trays → s.tray y = .reserved h p dp →
          t.tray y = if dp then .disabled else .free none)
      ∧ (∀ l e y ld p dp, e ∈ (s.lane l).inflight → y ∈ e.trays → s.tray y = .launched ld p dp →
          t.tray y = .unverified dp)
      ∧ s.tells t (.slip d)
      ∧ (s.ltk.slips = 0 → ∀ k, .notice .positionUntrusted ∉ (t.link k).queue.drop (s.link k).queue.length)
      ∧ (s.ltk.slips = 1 → s.tells t (.state s.ltk.loop .unsynced .escalation) ∧ s.tells t .positionUntrusted)
      ∧ (∀ l x, (s.lane l).state.solution? = some x →
          s.tells t (.claimReleased l .slip (some x.tray) x.partner (t.lane l).state.name) ∧ s.tellsFault t l)
      ∧ (∀ l e, e ∈ (s.lane l).inflight → s.tells t (.unverified e.tray e.partner .slip l e.ticket))
      ∧ t.pst = s.pst ∧ LinksKeptButNotices s t

/-- R17, R18: the marker is missing at a pitch event at C. The window closes, the slip count rises, the flights are
resolved, Q and the revolution number stay, and a second failure escalates. MARKER_MISSING, an UNVERIFIED for each
flight, a CLAIM_RELEASED for each claim, of reason SLIP unless the same event's speed has released it already, and, at
the escalation, STATE and POSITION_UNTRUSTED join the queues of the links that hear them (R174) and have room. That
UNVERIFIED goes to PLANNER also is the model's reading of R16 (notes/assumptions/18.md). -/
def Obligations.MissingMarkerIsFoundAtC : Prop :=
  ∀ (m : Moment) (held : Nat) (eye : List EyeLevel) (s : State) (g : Geometry), s.pst.geometry = some g → g.InRange →
    5 ≤ held → s.ltk.loop ≠ .unsynced → s.nextQ g = g.c → s.ltk.windowOpen = true →
    ∃ t, exec (.encoderCount m held eye) s = .next t
      ∧ t.ltk.q = g.c ∧ t.ltk.windowOpen = false ∧ t.ltk.slips = s.ltk.slips + 1
      ∧ t.ltk.revolution = s.ltk.revolution ∧ t.ltk.movement = true ∧ t.ltk.recount = s.ltk.recount - 1
      ∧ (∀ l, (t.lane l).inflight = [])
      ∧ (s.ltk.slips = 0 → t.ltk.loop ≠ .unsynced ∧ t.ltk.resyncRequired = s.ltk.resyncRequired)
      ∧ (s.ltk.slips = 1 → t.ltk.loop = .unsynced ∧ t.ltk.resyncRequired = true ∧ t.ltk.resyncPending = false
          ∧ (∀ l, (t.lane l).state.solution? = none) ∧ (∀ x, (t.tray x).earmark = none)
          ∧ ∀ l, (t.share l).outstanding = 0)
      ∧ s.tells t .markerMissing
      ∧ (s.ltk.slips = 0 → ∀ k, .notice .positionUntrusted ∉ (t.link k).queue.drop (s.link k).queue.length)
      ∧ (∀ l x, (s.lane l).state.solution? = some x → ∃ final, (s.lane l).EndsWaiting final
          ∧ (s.losesSpeed g m → s.tells t (.claimReleased l .loopNotRunning (some x.tray) x.partner final.name))
          ∧ (¬ s.losesSpeed g m → s.tells t (.claimReleased l .slip (some x.tray) x.partner final.name)))
      ∧ (s.ltk.slips = 1 → s.tells t .positionUntrusted ∧ ∃ old, s.tells t (.state old .unsynced .escalation))
      ∧ (∀ l e, e ∈ (s.lane l).inflight → s.tells t (.unverified e.tray e.partner .slip l e.ticket))
      ∧ LinksKeptButNotices s t

/-- R5, R13: a marker taken in UNSYNCED. Q, the span, the slip count and both flags are cleared; the loop leaves
UNSYNCED for CRAWLING while the stall timer runs and for STOPPED while it is idle, with STATE of cause MARKER; and
RESYNC_DONE is posted where a RESYNC was pending, to the links that hear it (R174) and have room. No tray, claim,
record or flight is touched. That the movement and the last timestamp stay, and that the history is emptied on the way
to STOPPED, are the model's readings of R13 and R5 (notes/assumptions/26.md). -/
def Obligations.SynchronisingMarkerSetsThePosition : Prop :=
  ∀ (m : Moment) (held : Nat) (eye : List EyeLevel) (s : State) (g : Geometry), s.pst.geometry = some g → 50 ≤ held →
    s.ltk.loop = .unsynced → s.ltk.armed = true → (s.ltk.resyncRequired = false ∨ s.ltk.resyncPending = true) →
    ∃ t, exec (.homePulse m held eye) s = .next t
      ∧ (s.ltk.stall.isSome = true → t.ltk = { s.ltk with
          loop := .crawling, q := 0, slips := 0, recount := 0, resyncRequired := false, resyncPending := false,
          armed := false, windowOpen := false, revolution := s.ltk.revolution + 1 })
      ∧ (s.ltk.stall = none → t.ltk = { s.ltk with
          loop := .stopped, q := 0, slips := 0, recount := 0, resyncRequired := false, resyncPending := false,
          armed := false, windowOpen := false, revolution := s.ltk.revolution + 1, history := [],
          overspeedArmed := true })
      ∧ t.tmap = s.tmap ∧ (∀ l, t.lane l = { (s.clock m).lane l with launchesRev := 0 })
      ∧ (s.ltk.resyncPending = true → s.tells t .resyncDone)
      ∧ (s.ltk.resyncPending = false → ∀ k, .notice .resyncDone ∉ (t.link k).queue.drop (s.link k).queue.length)
      ∧ s.tells t (.state .unsynced t.ltk.loop .marker)
      ∧ t.pst = s.pst ∧ t.lines = { s.lines with checkEye := s.eyeAfter eye } ∧ t.micros = m.reading
      ∧ LinksKeptButNotices s t

/-- R11, R20, R45, R58, R120, R129, R147, R175: every taken marker raises a revolution event. The number rises by 1
and wraps, the tally of the new revolution is 0, every quota counter is its reload value and every launch count of the
revolution is 0. The REVOLUTION summary is the last notice, and carries the new number, the loop state, the closed
tally, the trays counted by state and the counters of each lane. At an exact marker it is the only notice, with the
launches and the quota counters as they stood; the tally closed is the one that stood, and a lane paced automatically
is paced by its share of it, limited by its quota. The record in force is in range, as LoopSound.within keeps it. That
the summary stands behind the notices of other blocks is the model's choice (notes/assumptions/11.md). -/
def Obligations.TakenMarkerRaisesARevolution : Prop :=
  ∀ (m : Moment) (held : Nat) (eye : List EyeLevel) (s : State) (g : Geometry), s.pst.geometry = some g → g.InRange →
    50 ≤ held → s.ltk.armed = true →
    (s.ltk.loop ≠ .unsynced ∨ s.ltk.resyncRequired = false ∨ s.ltk.resyncPending = true) →
    ∃ t, exec (.homePulse m held eye) s = .next t
      ∧ t.ltk.revolution = s.ltk.revolution + 1 ∧ t.ltk.armed = false ∧ t.ltk.windowOpen = false ∧ t.csm.fRev = 0
      ∧ (∀ l, (t.share l).counter = (t.share l).reload ∧ (t.share l).reload = (s.share l).reload)
      ∧ (∀ l, (t.lane l).launchesRev = 0)
      ∧ (∀ k, (s.link k).planner = true → (t.link k).queue.length < 32 → ∃ r : Revolution,
          (t.link k).queue.getLast? = some (.notice (.revolution r)) ∧ r.number = s.ltk.revolution + 1
          ∧ r.loop = t.ltk.loop ∧ r.fPrev = t.csm.fPrev ∧ r.counts = t.traysByState
          ∧ ∀ l, (r.lanes.get l).counters = (t.lane l).counters)
      ∧ (s.ltk.loop ≠ .unsynced → s.ltk.q = 0 →
          (∀ k, (s.link k).planner = false → t.link k = s.link k)
          ∧ ∀ k, (s.link k).planner = true → (s.link k).queue.length < 32 → ∃ r : Revolution,
            t.link k = { s.link k with queue := (s.link k).queue ++ [.notice (.revolution r)] }
            ∧ r.number = s.ltk.revolution + 1 ∧ r.loop = s.ltk.loop ∧ r.fPrev = s.csm.fRev
            ∧ r.counts = s.traysByState
            ∧ ∀ l, r.lanes.get l = { launchesRev := (s.lane l).launchesRev, counters := (s.lane l).counters,
                                     quota := (s.share l).counter })
      ∧ (s.ltk.loop ≠ .unsynced → s.ltk.q = 0 →
          t.csm.fPrev = s.csm.fRev
          ∧ ∀ l, (s.lane l).mode ≠ .absent → (s.lane l).copy.mode = .auto →
            ∀ w total e : Nat,
              ((∃ k ∈ s.eal.rotation, (s.lane k).mode ≠ .absent) → w = s.eal.rotation.count l
                ∧ total = (s.eal.rotation.filter (fun k => (s.lane k).mode ≠ .absent)).length) →
              ((∀ k ∈ s.eal.rotation, (s.lane k).mode = .absent) → w = 1
                ∧ total = (allLanes.filter (fun k => (s.lane k).mode ≠ .absent)).length) →
              e = min (s.share l).reload (s.csm.fRev * w / total) →
              (e = 0 → (t.paceOf l).pending = (s.lane l).copy.iMax)
              ∧ (0 < e → (t.paceOf l).pending
                  = max (s.lane l).copy.iMin (min (s.lane l).copy.iMax ((g.n + e - 1) / e))))

/-! ### The check station -/

/-- R49 to R52, R58: a RESERVED tray found empty, a LAUNCHED tray, a DISABLED tray and the TRAIL of a LOADED pair are
left as they are: the count is a count alone. A FREE tray found empty is tallied, up to N, and stays as it is where it
carries an earmark, the loop is not RUNNING or no lane is eligible; found occupied it is BLOCKED as a ghost, its
earmark gone, with a GHOST notice. A pitch event may fall at the same count (State.Samples); that its OVERSPEED stands
first is the model's choice (notes/assumptions/11.md), here and in the statements that follow. -/
def Obligations.SampleDecidesAFreeTrayAndLeavesTraysInUse : Prop :=
  ∀ (m : Moment) (held : Nat) (eye : List EyeLevel) (s : State) (g : Geometry) (x : Nat), s.Samples g m held x →
    (((∃ h p d, s.tray x = .reserved h p d ∧ s.eyeAfter eye = false) ∨ (∃ ld p d, s.tray x = .launched ld p d)
      ∨ s.tray x = .disabled ∨ (∃ ld y k f d, s.tray x = .loaded ld (some ⟨y, .trail⟩) k f d)) →
      exec (.encoderCount m held eye) s = .next (s.arrived g m (s.eyeAfter eye)))
    ∧ (∀ mark : Option LaneId, s.tray x = .free mark → s.eyeAfter eye = false →
      (mark.isSome = true ∨ s.ltk.loop ≠ .running ∨ s.nobodyEligible) →
      exec (.encoderCount m held eye) s = .next { s.arrived g m false with
        csm := { s.csm with fRev := min (s.csm.fRev + 1) g.n } })
    ∧ (s.tray x = .free none → s.eyeAfter eye = true → exec (.encoderCount m held eye) s = .next (State.posting
        { s.arrived g m true with tmap := s.tmap.set x (.blocked 0 .ghost) } [.ghost x none]))
    ∧ (∀ l, s.tray x = .free (some l) → s.eyeAfter eye = true →
      exec (.encoderCount m held eye) s = .next (State.posting
        { s.arrived g m true with
          tmap := s.tmap.set x (.blocked 0 .ghost),
          eal := { s.eal with
            shares := s.eal.shares.set l { s.share l with outstanding := (s.share l).outstanding - 1 } } }
        [.ghost x (some l)]))

/-- R54, R56, R58, R59, R127, R128: a FREE tray without an earmark found empty while the loop is RUNNING, or an
UNVERIFIED or BLOCKED tray that the sample frees, is tallied and granted to the lane of the first eligible slot from
the rotation position on: the earmark is written, the quota counter falls, the outstanding count rises, and the
position moves to the slot after. For a BLOCKED tray a RESOLVED notice is posted. -/
def Obligations.HandOverGrantsTheFirstEligibleSlot : Prop :=
  ∀ (m : Moment) (held : Nat) (eye : List EyeLevel) (s u : State) (g : Geometry) (x i : Nat) (l : LaneId),
    s.Samples g m held x → s.eyeAfter eye = false → x < s.tmap.length → s.ltk.loop = .running → s.walkFinds i l →
    u = { s.arrived g m false with
      csm := { s.csm with fRev := min (s.csm.fRev + 1) g.n },
      tmap := s.tmap.set x (.free (some l)),
      eal := { rotation := s.eal.rotation, position := (i + 1) % s.eal.rotation.length,
               shares := s.eal.shares.set l { s.share l with
                 counter := (s.share l).counter - 1, outstanding := (s.share l).outstanding + 1 } } } →
    ((s.tray x = .free none ∨ s.tray x = .unverified false) → exec (.encoderCount m held eye) s = .next u)
    ∧ ∀ k c, s.tray x = .blocked k c → 0 < k →
      exec (.encoderCount m held eye) s = .next (State.posting u [.resolved x c .free])

/-- R32, R51, R57: a RESERVED tray found occupied is BLOCKED, or DISABLED under disable pending, and its partner with
it; the claim is revoked whatever the holder's state; and one GHOST event names the trays, the LEAD of a pair first (as
R57 has it, notes/assumptions/23.md). CLAIM_RELEASED of reason TRAY_BLOCKED names the claim. -/
def Obligations.SampleRevokesAReservedTray : Prop :=
  ∀ (m : Moment) (held : Nat) (eye : List EyeLevel) (s : State) (g : Geometry) (x : Nat) (h : LaneId)
    (pair : Option Partner) (d : Bool) (sol : Solution), s.Samples g m held x → s.eyeAfter eye = true →
    s.tray x = .reserved h pair d →
    (s.lane h).state.solution? = some sol → (∀ y, pair = some y → y.tray ≠ x) →
    ∃ t, exec (.encoderCount m held eye) s = .next t
      ∧ t.tray x = (if d then .disabled else .blocked 0 .reservedGhost)
      ∧ (∀ y r h' p' d', pair = some ⟨y, r⟩ → s.tray y = .reserved h' p' d' →
          t.tray y = if d' then .disabled else .blocked 0 .reservedGhost)
      ∧ (∀ y, y ≠ x → (∀ p, pair = some p → p.tray ≠ y) → s.tray y ≠ .free (some h) → t.tray y = s.tray y)
      ∧ (s.lane h).EndsWaiting (t.lane h).state ∧ (t.lane h).records = (s.lane h).records
      ∧ (t.lane h).inflight = (s.lane h).inflight ∧ (t.lane h).counters = (s.lane h).counters
      ∧ (∀ k, (s.link k).discharge = true → (s.link k).planner = false → (s.link k).window = none →
          ((s.arrived g m true).link k).queue.length < 32 →
          (pair = none → (t.link k).queue = ((s.arrived g m true).link k).queue
            ++ [.notice (.reservedGhost x none h [(t.tray x).state])])
          ∧ (∀ y, pair = some ⟨y, .lead⟩ → (t.link k).queue = ((s.arrived g m true).link k).queue
            ++ [.notice (.reservedGhost x (some y) h [(t.tray x).state, (t.tray y).state])])
          ∧ (∀ y, pair = some ⟨y, .trail⟩ → (t.link k).queue = ((s.arrived g m true).link k).queue
            ++ [.notice (.reservedGhost y (some x) h [(t.tray y).state, (t.tray x).state])]))
      ∧ s.tells t (.claimReleased h .trayBlocked (some sol.tray) sol.partner (t.lane h).state.name) ∧ s.tellsFault t h
      ∧ OtherLanesKept h (s.arrived g m true) t ∧ LoopKept (s.arrived g m true) t ∧ LinksKeptButNotices s t

/-- R25, R52, R53: a LOADED tray that is no TRAIL. Found empty it is freed with its partner, each by its own disable
pending, with a LOST notice; found occupied it confirms its first pass, or counts a recirculation up to 15, with
RECIRC_LIMIT at the limit; a pair changes together. A tray alone is so decided whatever else falls at its count, a pitch
event, a fire or a landing (State.PassesCentre). -/
def Obligations.SampleCountsALoadedTray : Prop :=
  ∀ (m : Moment) (held : Nat) (eye : List EyeLevel) (s : State) (g : Geometry) (x : Nat),
    (s.Samples g m held x →
      (∀ (ld : Option LaneLoad) (k : Nat) (f d : Bool), s.tray x = .loaded ld none k f d →
        (s.eyeAfter eye = false → exec (.encoderCount m held eye) s = .next (State.posting
          { s.arrived g m false with tmap := s.tmap.set x (if d then .disabled else .free none) }
          [.lost x none (ld.map LaneLoad.holder) (ld.bind LaneLoad.ticket) (ld.map LaneLoad.length) k
            [if d then .disabled else .free]]))
        ∧ (s.eyeAfter eye = true → f = true → exec (.encoderCount m held eye) s = .next
            { s.arrived g m true with tmap := s.tmap.set x (.loaded ld none k false d) })
        ∧ (s.eyeAfter eye = true → f = false → exec (.encoderCount m held eye) s = .next (State.posting
            { s.arrived g m true with tmap := s.tmap.set x (.loaded ld none (min (k + 1) 15) false d) }
            (if k < 15 ∧ k + 1 = g.recircLimit then
              [.recircLimit x none (ld.map LaneLoad.holder) (ld.bind LaneLoad.ticket) (k + 1)] else []))))
      ∧ ∀ (y : Nat) (ld ld' : Option LaneLoad) (p' : Option Partner) (k k' : Nat) (f f' d d' : Bool),
        s.tray x = .loaded ld (some ⟨y, .lead⟩) k f d → y ≠ x → s.tray y = .loaded ld' p' k' f' d' →
        (s.eyeAfter eye = false → exec (.encoderCount m held eye) s = .next (State.posting
          { s.arrived g m false with
            tmap := (s.tmap.set x (if d then .disabled else .free none)).set y (if d' then .disabled else .free none) }
          [.lost x (some y) (ld.map LaneLoad.holder) (ld.bind LaneLoad.ticket) (ld.map LaneLoad.length) k
            [if d then .disabled else .free, if d' then .disabled else .free]]))
        ∧ (s.eyeAfter eye = true → f = true → exec (.encoderCount m held eye) s = .next
            { s.arrived g m true with
              tmap := (s.tmap.set x (.loaded ld (some ⟨y, .lead⟩) k false d)).set y (.loaded ld' p' k false d') })
        ∧ (s.eyeAfter eye = true → f = false → exec (.encoderCount m held eye) s = .next (State.posting
            { s.arrived g m true with
              tmap := (s.tmap.set x (.loaded ld (some ⟨y, .lead⟩) (min (k + 1) 15) false d)).set y
                (.loaded ld' p' (min (k + 1) 15) false d') }
            (if k < 15 ∧ k + 1 = g.recircLimit then
              [.recircLimit x (some y) (ld.map LaneLoad.holder) (ld.bind LaneLoad.ticket) (k + 1)] else []))))
    ∧ (s.PassesCentre g held x → ∀ (ld : Option LaneLoad) (k : Nat) (f d : Bool), s.tray x = .loaded ld none k f d →
      ∃ t, exec (.encoderCount m held eye) s = .next t ∧ t.csm = s.csm
        ∧ (s.eyeAfter eye = false → t.tray x = (if d then .disabled else .free none)
            ∧ s.tells t (.lost x none (ld.map LaneLoad.holder) (ld.bind LaneLoad.ticket) (ld.map LaneLoad.length) k
                [if d then .disabled else .free]))
        ∧ (s.eyeAfter eye = true → f = true → t.tray x = .loaded ld none k false d)
        ∧ (s.eyeAfter eye = true → f = false → t.tray x = .loaded ld none (min (k + 1) 15) false d
            ∧ (k < 15 → k + 1 = g.recircLimit → s.tells t
                (.recircLimit x none (ld.map LaneLoad.holder) (ld.bind LaneLoad.ticket) (k + 1)))))

/-- R54 to R56, R58: an UNVERIFIED tray found occupied is a found load, with a LOAD notice marked found; found empty it
is DISABLED under disable pending, and otherwise FREE and tallied. A BLOCKED tray found occupied loses its streak;
found empty once it has a streak of 1, and found empty twice it is FREE and tallied, with a RESOLVED notice. The
trays freed here are left open, since the loop is not RUNNING or no lane is eligible; HandOverGrantsTheFirstEligibleSlot
has those that are granted. The tray is so decided whatever else falls at its count, a pitch event, a fire or a landing
(State.PassesCentre). -/
def Obligations.SampleDecidesAnUnknownTray : Prop :=
  ∀ (m : Moment) (held : Nat) (eye : List EyeLevel) (s : State) (g : Geometry) (x : Nat),
    x < s.tmap.length →
    (s.Samples g m held x →
      (∀ d, s.tray x = .unverified d →
        (s.eyeAfter eye = true → exec (.encoderCount m held eye) s = .next (State.posting
          { s.arrived g m true with tmap := s.tmap.set x (.loaded none none 0 false d) }
          [.load x true (.loaded none none 0 false d)]))
        ∧ (s.eyeAfter eye = false → d = true → exec (.encoderCount m held eye) s = .next
            { s.arrived g m false with tmap := s.tmap.set x .disabled })
        ∧ (s.eyeAfter eye = false → d = false → (s.ltk.loop ≠ .running ∨ s.nobodyEligible) →
          exec (.encoderCount m held eye) s = .next
            { s.arrived g m false with
              tmap := s.tmap.set x (.free none), csm := { s.csm with fRev := min (s.csm.fRev + 1) g.n } }))
      ∧ (∀ k c, s.tray x = .blocked k c →
        (s.eyeAfter eye = true → exec (.encoderCount m held eye) s = .next
          { s.arrived g m true with tmap := s.tmap.set x (.blocked 0 c) })
        ∧ (s.eyeAfter eye = false → k = 0 → exec (.encoderCount m held eye) s = .next
            { s.arrived g m false with tmap := s.tmap.set x (.blocked 1 c) })
        ∧ (s.eyeAfter eye = false → 0 < k → (s.ltk.loop ≠ .running ∨ s.nobodyEligible) →
          exec (.encoderCount m held eye) s = .next
            (State.posting
              { s.arrived g m false with
                tmap := s.tmap.set x (.free none), csm := { s.csm with fRev := min (s.csm.fRev + 1) g.n } }
              [.resolved x c .free]))))
    ∧ (s.PassesCentre g held x → ∃ t, exec (.encoderCount m held eye) s = .next t
      ∧ (∀ d, s.tray x = .unverified d →
        (s.eyeAfter eye = true → t.tray x = .loaded none none 0 false d ∧ t.csm = s.csm
          ∧ s.tells t (.load x true (.loaded none none 0 false d)))
        ∧ (s.eyeAfter eye = false → d = true → t.tray x = .disabled ∧ t.csm = s.csm)
        ∧ (s.eyeAfter eye = false → d = false → (t.tray x).state = .free
          ∧ t.csm = { s.csm with fRev := min (s.csm.fRev + 1) g.n }))
      ∧ (∀ k c, s.tray x = .blocked k c →
        (s.eyeAfter eye = true → t.tray x = .blocked 0 c ∧ t.csm = s.csm)
        ∧ (s.eyeAfter eye = false → k = 0 → t.tray x = .blocked 1 c ∧ t.csm = s.csm)
        ∧ (s.eyeAfter eye = false → 0 < k → (t.tray x).state = .free
          ∧ t.csm = { s.csm with fRev := min (s.csm.fRev + 1) g.n } ∧ s.tells t (.resolved x c .free))))

/-! ### The lane's feed -/

/-- R69, R80, R142: a leading edge at a lane with fewer than four records begins a MEASURING record at the lane's
belt-time, bound to the oldest pending ticket. On a MANUAL lane it answers PLACE, or counts as an early placement in a
working state, and is not acted on by the pacing in PAUSED and FAULTED. -/
def Obligations.LeadingEdgeBeginsARecord : Prop :=
  ∀ (m : Moment) (held : Nat) (l : LaneId) (s u : State) (ln : Lane), 50 ≤ held → s.lines.lengthEye.get l = false →
    (s.lane l).state ≠ .absent → (s.lane l).records.length < 4 →
    u = { s.clock m with lines := { s.lines with lengthEye := s.lines.lengthEye.set l true } } →
    ln = { u.lane l with
      records := (s.lane l).records ++ [.measuring (u.lane l).beltTime (s.lane l).tickets.head?]
      tickets := (s.lane l).tickets.tail } →
    ((s.lane l).mode ≠ .manual ∨ s.atRest l →
      exec (.lengthEyeLeadingEdge m held l) s = .next { u with lanes := u.lanes.set l ln })
    ∧ ((s.lane l).mode = .manual → ¬ s.atRest l → s.ltk.loop = .running → (s.paceOf l).cue = .place →
      exec (.lengthEyeLeadingEdge m held l) s = .next { u with
        lanes := u.lanes.set l ln
        pace := s.pace.set l { s.paceOf l with cue := .wait, flashFrom := m.reading } })
    ∧ ((s.lane l).mode = .manual → ¬ s.atRest l → (s.ltk.loop ≠ .running ∨ (s.paceOf l).cue ≠ .place) →
      exec (.lengthEyeLeadingEdge m held l) s = .next { u with
        lanes := u.lanes.set l { ln with
          counters := { ln.counters with early := min (ln.counters.early + 1) 65535 } } })

/-- R77, R111: a leading edge that finds four records makes none and binds no ticket. Overfill pending is set; an IDLE,
WAITING or PAUSED lane faults OVERFILL at once, dropping its earmarks, with a LANE_FAULT notice; in TRACKING, COMMITTED
and RELEASING the fault is due; a FAULTED lane keeps its reason. -/
def Obligations.LeadingEdgeAtAFullListOverfills : Prop :=
  ∀ (m : Moment) (held : Nat) (l : LaneId) (s u : State), 50 ≤ held → s.lines.lengthEye.get l = false →
    4 ≤ (s.lane l).records.length → (s.lane l).state ≠ .absent →
    u = { s.clock m with lines := { s.lines with lengthEye := s.lines.lengthEye.set l true } } →
    ∃ t, exec (.lengthEyeLeadingEdge m held l) s = .next t
      ∧ (t.lane l).records = (s.lane l).records ∧ (t.lane l).tickets = (s.lane l).tickets
      ∧ (t.lane l).inflight = (s.lane l).inflight ∧ (t.lane l).overfillPending = true
      ∧ (((s.lane l).state = .idle ∨ (s.lane l).state = .waiting ∨ (s.lane l).state = .paused) →
          (t.lane l).state = .faulted .overfill ∧ MapKeptButEarmarks l u t
          ∧ (∀ x, t.tray x ≠ .free (some l)) ∧ (t.share l).outstanding = 0
          ∧ ∀ k, ((s.link k).planner = true ∨ s.holdsLane k l) → (s.link k).queue.length < 32 →
            (t.link k).queue = (s.link k).queue ++ [.notice (.laneFault l .overfill (s.lane l).records.length
              ((s.lane l).records.head?.bind ParcelRecord.carried) [] none)])
      ∧ (((∃ x, (s.lane l).state = .tracking x) ∨ (∃ x, (s.lane l).state = .committed x)
          ∨ ∃ a b, (s.lane l).state = .releasing a b) →
          (t.lane l).state = (s.lane l).state ∧ (t.lane l).overfillDue = true ∧ MapKept u t ∧ t.links = s.links)
      ∧ (∀ r, (s.lane l).state = .faulted r →
          (t.lane l).state = .faulted r ∧ (t.lane l).overfillDue = (s.lane l).overfillDue ∧ MapKept u t
          ∧ t.links = s.links)
      ∧ OtherLanesKept l u t ∧ LoopKept u t ∧ LinksKeptButNotices s t

/-- R70 to R72: a trailing edge measures the newest record, by the belt-time since its leading edge and the belt speed
of the active copy, rounded half up and held at 65,535. Below the minimum length it is a glitch: the record goes, its
ticket returns to the front, and a full list loses its newest ticket with TICKET_DROPPED. Otherwise the record has its
length and disposition, and is a no-read without a ticket. With no MEASURING record only the eye's level changes. -/
def Obligations.TrailingEdgeMeasuresTheParcel : Prop :=
  ∀ (m : Moment) (held : Nat) (l : LaneId) (s u : State) (g : Geometry), 50 ≤ held → s.lines.lengthEye.get l = true →
    (s.lane l).state ≠ .absent → s.pst.geometry = some g →
    u = { s.clock m with lines := { s.lines with lengthEye := s.lines.lengthEye.set l false } } →
    (∀ (before : List ParcelRecord) (start : Micros) (ticket : Option Ticket) (length : Nat),
      (s.lane l).records = before ++ [.measuring start ticket] →
      length = min ((((u.lane l).beltTime - start).toNat * (s.lane l).copy.vB + 500000) / 1000000) 65535 →
      ((s.lane l).copy.minLength ≤ length → exec (.lengthEyeTrailingEdge m held l) s = .next { u with
        lanes := u.lanes.set l { u.lane l with
          records := before ++ [.onBelt { ticket := ticket, length := length, disposition :=
            (if length ≤ g.u then .induct .one else if length ≤ 2 * g.u then .induct .two else .reject) }],
          counters := { (s.lane l).counters with noReads :=
            (if ticket = none then min ((s.lane l).counters.noReads + 1) 65535
             else (s.lane l).counters.noReads) } } })
      ∧ (length < (s.lane l).copy.minLength → ticket = none ∨ (s.lane l).tickets.length < 8 →
        exec (.lengthEyeTrailingEdge m held l) s = .next { u with
          lanes := u.lanes.set l { u.lane l with
            records := before, tickets := ticket.toList ++ (s.lane l).tickets,
            counters := { (s.lane l).counters with glitches := min ((s.lane l).counters.glitches + 1) 65535 } } })
      ∧ (∀ (first newest : Ticket) (others : List Ticket), length < (s.lane l).copy.minLength → ticket = some first →
        (s.lane l).tickets = others ++ [newest] → others.length = 7 →
        exec (.lengthEyeTrailingEdge m held l) s = .next (State.posting
          { u with
            lanes := u.lanes.set l { u.lane l with
              records := before, tickets := first :: others,
              counters := { (s.lane l).counters with glitches := min ((s.lane l).counters.glitches + 1) 65535 } } }
          [.ticketDropped l newest])))
    ∧ ((∀ before start ticket, (s.lane l).records ≠ before ++ [.measuring start ticket]) →
        exec (.lengthEyeTrailingEdge m held l) s = .next u)

/-- R75, R97, R111: the hold eye of an IDLE lane becomes blocked. A measured head stands at hold and the lane is
WAITING, or FAULTED(TOO_LONG) where it is a REJECT; a MEASURING head or an empty list faults UNMEASURED with no record
changed. A fault is told by LANE_FAULT. In every other state only the eye's level changes. -/
def Obligations.HoldEyeBlockTakesTheHead : Prop :=
  ∀ (m : Moment) (held : Nat) (l : LaneId) (s u : State), 50 ≤ held → s.holdBlocked l = false →
    u = { s.clock m with lines := { s.lines with holdEye := s.lines.holdEye.set l true } } →
    ((s.lane l).state ≠ .idle → exec (.holdEyeBlocked m held l) s = .next u)
    ∧ ((s.lane l).state = .idle → (s.lane l).overfillDue = false → (s.lane l).pausePending = false →
      ∃ t, exec (.holdEyeBlocked m held l) s = .next t
        ∧ (∀ p rest, (s.lane l).records = .onBelt p :: rest ∨ (s.lane l).records = .atHold p :: rest →
            (t.lane l).records = .atHold p :: rest
            ∧ (t.lane l).state = (if p.disposition = .reject then .faulted .tooLong else .waiting)
            ∧ (p.disposition ≠ .reject → MapKept u t ∧ t.links = s.links
                ∧ (t.lane l).copy = s.profile (s.lane l).profile ∧ (t.lane l).adoptPending = false))
        ∧ (((s.lane l).records = [] ∨ ∃ a b rest, (s.lane l).records = .measuring a b :: rest) →
            (t.lane l).records = (s.lane l).records ∧ (t.lane l).state = .faulted .unmeasured
            ∧ (t.lane l).copy = (s.lane l).copy)
        ∧ s.tellsFault t l ∧ (t.lane l).tickets = (s.lane l).tickets ∧ (t.lane l).inflight = (s.lane l).inflight
        ∧ (t.lane l).counters = (s.lane l).counters ∧ (t.lane l).beltTime = (u.lane l).beltTime
        ∧ OtherLanesKept l u t ∧ LoopKept u t ∧ MapKeptButEarmarks l u t ∧ LinksKeptButNotices s t)

/-- R104, R78, R114: the hold eye of a RELEASING lane clears. The newest flight's hold-clear flag is set, and the lane
goes to IDLE, to PAUSED under a pending pause, or to FAULTED(OVERFILL), told by LANE_FAULT, while that fault is due. In
every other state only the eye's level changes. -/
def Obligations.HoldEyeClearEndsTheRelease : Prop :=
  ∀ (m : Moment) (held : Nat) (l : LaneId) (s u : State), 50 ≤ held → s.holdBlocked l = true →
    u = { s.clock m with lines := { s.lines with holdEye := s.lines.holdEye.set l false } } →
    ((∀ a b, (s.lane l).state ≠ .releasing a b) → exec (.holdEyeCleared m held l) s = .next u)
    ∧ ((∃ a b, (s.lane l).state = .releasing a b) →
      ∃ t, exec (.holdEyeCleared m held l) s = .next t
        ∧ ((s.lane l).inflight = [] → (t.lane l).inflight = [])
        ∧ (∀ older newest, (s.lane l).inflight = older ++ [newest] →
            (t.lane l).inflight = older ++ [{ newest with holdClear := true }])
        ∧ ((s.lane l).overfillDue = true → (t.lane l).state = .faulted .overfill ∧ (t.lane l).overfillDue = false
            ∧ (t.lane l).pausePending = false)
        ∧ ((s.lane l).overfillDue = false → (s.lane l).pausePending = true →
            (t.lane l).state = .paused ∧ (t.lane l).pausePending = false)
        ∧ ((s.lane l).overfillDue = false → (s.lane l).pausePending = false →
            (t.lane l).state = .idle ∧ MapKept u t ∧ t.links = s.links)
        ∧ s.tellsFault t l
        ∧ (t.lane l).records = (s.lane l).records ∧ (t.lane l).tickets = (s.lane l).tickets
        ∧ (t.lane l).counters = (s.lane l).counters
        ∧ OtherLanesKept l u t ∧ LoopKept u t ∧ MapKeptButEarmarks l u t ∧ LinksKeptButNotices s t)

/-- R105, R26, R111: the hold-clear timer of a RELEASING lane expires. The lane faults JAM and a pending pause is
cleared, while an overfill fault due is kept; a newest flight that is not yet clear is removed and its trays are
UNVERIFIED, their disable pending kept, with UNVERIFIED of reason JAM; any other flight stays. LANE_FAULT names the
trays and the ticket of a removed flight, and none where no flight is removed. -/
def Obligations.HoldClearTimeoutJamsTheLane : Prop :=
  ∀ (m : Moment) (l : LaneId) (s : State), (∃ a b, (s.lane l).state = .releasing a b) →
    ∃ t, exec (.holdClearTimeout m l) s = .next t
      ∧ (t.lane l).state = .faulted .jam ∧ (t.lane l).pausePending = false
      ∧ (t.lane l).overfillDue = (s.lane l).overfillDue ∧ (t.lane l).records = (s.lane l).records
      ∧ (t.lane l).tickets = (s.lane l).tickets ∧ (t.lane l).counters = (s.lane l).counters
      ∧ (∀ older newest, (s.lane l).inflight = older ++ [newest] → newest.holdClear = false →
          (t.lane l).inflight = older
          ∧ (∀ y ld p d, y ∈ newest.trays → s.tray y = .launched ld p d → t.tray y = .unverified d)
          ∧ s.tells t (.unverified newest.tray newest.partner .jam l newest.ticket)
          ∧ s.tellsFault t l newest.trays newest.ticket
          ∧ (∀ y, y ∉ newest.trays → s.tray y ≠ .free (some l) → t.tray y = s.tray y))
      ∧ (((s.lane l).inflight = [] ∨ ∃ older newest, (s.lane l).inflight = older ++ [newest]
            ∧ newest.holdClear = true) →
          (t.lane l).inflight = (s.lane l).inflight ∧ s.tellsFault t l ∧ MapKeptButEarmarks l (s.clock m) t)
      ∧ OtherLanesKept l (s.clock m) t ∧ LoopKept (s.clock m) t ∧ LinksKeptButNotices s t

/-! ### Launch arithmetic -/

/-- R89, R90, R92: with a lead of at most sixteen pitches, the candidate's launch point lies from G·C to G·C + C − 1
counts ahead of Q, so the verdict at a claim is to track; and the tray before the candidate would have been less than
G·C ahead. -/
def Obligations.CandidateLiesAGuardAhead : Prop :=
  ∀ (g : Geometry) (l : LaneId) (span : Span) (guard q lead : Nat), g.InRange → q < g.n * g.c → 1 ≤ guard → guard ≤ 8 →
    lead ≤ 16 * g.c → ∀ h c m : Nat, h = (match span with | .one => g.c / 2 | .two => g.c) →
    c = candidate g (g.merge.get l) guard q lead h → m = mergePosition g (g.merge.get l) c h →
    c < g.n ∧ m = (g.merge.get l + c * g.c + h) % (g.n * g.c)
      ∧ ∃ d : Nat, signedDistance (g.n * g.c) q (launchPoint g m lead) = (d : Int)
        ∧ guard * g.c ≤ d ∧ d ≤ guard * g.c + g.c - 1
        ∧ (d : Int) - g.c < (guard * g.c : Nat)

/-- R84, R95, R132: at its reach point c a lane's earmarks on trays t with (c − t) mod N from 1 to N div 2 lapse, and no
other tray changes; the lane's outstanding count stays the number of its earmarks, and nothing else of the Allocator
moves. At a pitch event that carries RUNNING a lane hands over its reach point: in IDLE and RELEASING for a length of 0
and a span of one tray, in COMMITTED and WAITING for its head at hold; and the map then holds what the lapse leaves, but
for the trays that a WAITING lane claims. -/
def Obligations.EarmarksBehindTheReachPointLapse : Prop :=
  (∀ (s : State) (g : Geometry) (l : LaneId) (q period length : Nat) (span : Span) (c : Nat) (t : State),
    g.InRange → s.tmap.length = g.n → c = reachPoint g (g.merge.get l) (s.lane l).copy q period span length →
    t = s.handReach g l q period span length →
    (∀ x, x < g.n → s.tray x = .free (some l) → 1 ≤ (c + g.n - x) % g.n → (c + g.n - x) % g.n ≤ g.n / 2 →
        t.tray x = .free none)
    ∧ (∀ x, x < g.n → (s.tray x ≠ .free (some l) ∨ (c + g.n - x) % g.n = 0 ∨ g.n / 2 < (c + g.n - x) % g.n) →
        t.tray x = s.tray x)
    ∧ ((s.share l).outstanding = countEarmarks l s.tmap → (t.share l).outstanding = countEarmarks l t.tmap)
    ∧ (t.share l).reload = (s.share l).reload ∧ (t.share l).counter = (s.share l).counter
    ∧ (∀ k, k ≠ l → t.share k = s.share k) ∧ t.lanes = s.lanes ∧ t.pace = s.pace ∧ t.links = s.links
    ∧ t.ltk = s.ltk ∧ t.eal.rotation = s.eal.rotation ∧ t.eal.position = s.eal.position)
  ∧ ∀ (m : Moment) (held : Nat) (eye : List EyeLevel) (s : State) (g : Geometry) (l : LaneId) (period : Nat),
    s.RunningPitch g m held period l →
    (((s.lane l).state = .idle ∨ ∃ a b, (s.lane l).state = .releasing a b) →
      ∃ t, exec (.encoderCount m held eye) s = .next t
        ∧ MapKept (s.handReach g l (s.nextQ g) period .one 0) t)
    ∧ ∀ (p : Measured) (rest : List ParcelRecord) (span : Span),
      (s.lane l).records = .atHold p :: rest → p.disposition = .induct span →
      ((∃ x, (s.lane l).state = .committed x) →
        ∃ t, exec (.encoderCount m held eye) s = .next t
          ∧ MapKept (s.handReach g l (s.nextQ g) period span p.length) t)
      ∧ ((s.lane l).state = .waiting →
        ∃ t, exec (.encoderCount m held eye) s = .next t
          ∧ ((t.lane l).state = .waiting → MapKept (s.handReach g l (s.nextQ g) period span p.length) t)
          ∧ ∀ y, (∀ x, (t.lane l).state = .tracking x → y ∉ x.trays) →
            t.tray y = (s.handReach g l (s.nextQ g) period span p.length).tray y)

/-! ### The Lane Sequencer -/

/-- R29, R88, R98, R99: a WAITING lane with an INDUCT head at hold, at a pitch event that carries RUNNING. With
DISCHARGE held, a free flight place, no recount span and a lead of at most sixteen pitches it offers its candidate.
Where every named tray is claimable the trays are RESERVED for it and it is TRACKING with the solution of stages 4 to
7; where one is not, it stays WAITING and no tray is RESERVED. Where one of the four conditions fails it makes no
claim: it stays WAITING, no tray changes its state, and a lead above sixteen pitches sets the mark and posts
CLAIM_RELEASED once. (The pitch event may also bring a MANUAL lane its beat, R141. That its OVERSPEED, where it has
one, stands before the CLAIM_RELEASED is the model's choice, notes/assumptions/11.md.) -/
def Obligations.WaitingLaneClaimsItsCandidate : Prop :=
  ∀ (m : Moment) (held : Nat) (eye : List EyeLevel) (s : State) (g : Geometry) (l : LaneId) (period : Nat)
    (p : Measured) (rest : List ParcelRecord) (span : Span), s.RunningPitch g m held period l →
    (s.lane l).state = .waiting → (s.lane l).records = .atHold p :: rest → p.disposition = .induct span →
    ∀ lead : Nat, lead = leadCounts (flightTime (s.lane l).copy p.length) g.c period →
    ((∃ k, (s.link k).discharge = true) → (s.lane l).inflight.length < 4 → s.ltk.recount = 0 → lead ≤ 16 * g.c →
    ∀ h c : Nat, h = (match span with | .one => g.c / 2 | .two => g.c) →
    c = candidate g (g.merge.get l) (s.lane l).copy.guard (s.nextQ g) lead h →
    ∃ t, exec (.encoderCount m held eye) s = .next t ∧ (t.lane l).leadMark = false
      ∧ (t.lane l).records = (s.lane l).records ∧ (t.lane l).inflight = (s.lane l).inflight
      ∧ (span = .one →
        ((s.tray c = .free none ∨ s.tray c = .free (some l)) →
          t.tray c = .reserved l none false ∧ ∃ x, (t.lane l).state = .tracking x ∧ x.tray = c ∧ x.partner = none
            ∧ x.offset = h ∧ x.merge = (g.merge.get l + c * g.c + h) % (g.n * g.c) ∧ x.lead = lead
            ∧ (x.launch + lead) % (g.n * g.c) = x.merge ∧ x.dist = signedDistance (g.n * g.c) (s.nextQ g) x.launch)
        ∧ ((s.tray c ≠ .free none ∧ s.tray c ≠ .free (some l)) →
          (t.lane l).state = .waiting ∧ t.tray c = s.tray c))
      ∧ (span = .two → ∀ c', c' = (c + 1) % g.n →
        (((s.tray c = .free none ∨ s.tray c = .free (some l)) ∧ (s.tray c' = .free none ∨ s.tray c' = .free (some l))) →
          t.tray c = .reserved l (some ⟨c', .lead⟩) false ∧ t.tray c' = .reserved l (some ⟨c, .trail⟩) false
          ∧ ∃ x, (t.lane l).state = .tracking x ∧ x.tray = c ∧ x.partner = some c')
        ∧ (((s.tray c ≠ .free none ∧ s.tray c ≠ .free (some l))
            ∨ (s.tray c' ≠ .free none ∧ s.tray c' ≠ .free (some l))) →
          (t.lane l).state = .waiting ∧ ∀ y, (t.tray y).state = (s.tray y).state))
      ∧ (∀ k, k ≠ l → t.lane k = (s.clock m).lane k))
    ∧ (((∀ k, (s.link k).discharge = false) ∨ 4 ≤ (s.lane l).inflight.length ∨ 0 < s.ltk.recount
        ∨ 16 * g.c < lead) →
      ∃ t, exec (.encoderCount m held eye) s = .next t
        ∧ t.lane l = { (s.clock m).lane l with leadMark := decide (16 * g.c < lead), counters := (t.lane l).counters }
        ∧ (t.lane l).counters = { (s.lane l).counters with idleBeats := (t.lane l).counters.idleBeats }
        ∧ (∀ y, (t.tray y).state = (s.tray y).state)
        ∧ t.links = (s.posting (s.overspeedAt m.reading
            ++ (if 16 * g.c < lead ∧ (s.lane l).leadMark = false then
                [.claimReleased l .leadRange none none .waiting] else []))).links
        ∧ (∀ k, k ≠ l → t.lane k = (s.clock m).lane k))

/-- R78, R88, R92, R93, R97, R100, R109: a TRACKING lane at a pitch event that carries RUNNING recomputes its lead,
launch point and distance, tray and merge position fixed, and acts on the verdict. A lead above sixteen pitches
releases the claim with the lead-range mark, and a launch point behind Q releases it as a missed window: the lane ends
in WAITING, in FAULTED(OVERFILL) while that fault is due, or in PAUSED under a pending pause; its trays are freed, and
a CLAIM_RELEASED of reason LEAD_RANGE or MISSED names them and the state it ended in. A launch point less than a pitch
ahead commits, and one further ahead is tracked on, an overfill fault still due. One at Q fires at once: the trays are
LAUNCHED, and the lane is RELEASING, or, its hold eye clear already, in IDLE or in what stands for it (R104, R114). -/
def Obligations.TrackingLaneActsOnItsVerdict : Prop :=
  ∀ (m : Moment) (held : Nat) (eye : List EyeLevel) (s : State) (g : Geometry) (l : LaneId) (period : Nat)
    (p : Measured) (rest : List ParcelRecord) (span : Span) (x : Solution), s.RunningPitch g m held period l →
    (s.lane l).state = .tracking x → (s.lane l).records = .atHold p :: rest → p.disposition = .induct span →
    ∀ (lead launch : Nat) (d : Int), lead = leadCounts (flightTime (s.lane l).copy p.length) g.c period →
    launch = launchPoint g x.merge lead → d = signedDistance (g.n * g.c) (s.nextQ g) launch →
    ∃ t, exec (.encoderCount m held eye) s = .next t
      ∧ ((16 * g.c < lead ∨ d < 0) → (s.lane l).EndsWaiting (t.lane l).state
          ∧ (t.lane l).records = (s.lane l).records
          ∧ (∀ y h pr dp, y ∈ x.trays → s.tray y = .reserved h pr dp → t.tray y = if dp then .disabled else .free none)
          ∧ s.tells t (.claimReleased l (if 16 * g.c < lead then .leadRange else .missed) (some x.tray) x.partner
              (t.lane l).state.name)
          ∧ ((s.lane l).overfillDue = true → (t.lane l).overfillDue = false ∧ (t.lane l).pausePending = false
              ∧ s.tells t (.laneFault l .overfill (s.lane l).records.length p.ticket [] none)))
      ∧ (16 * g.c < lead → (t.lane l).counters.missed = (s.lane l).counters.missed
          ∧ ((t.lane l).state = .waiting → (t.lane l).leadMark = true))
      ∧ (lead ≤ 16 * g.c → d < 0 →
          (t.lane l).counters.missed = min ((s.lane l).counters.missed + 1) 65535)
      ∧ (((t.lane l).state ≠ .waiting ∨ lead ≤ 16 * g.c) → (t.lane l).leadMark = false)
      ∧ (lead ≤ 16 * g.c → 0 < d → d < g.c →
          (t.lane l).state = .committed { x with lead := lead, launch := launch, dist := d })
      ∧ (lead ≤ 16 * g.c → (g.c : Int) ≤ d →
          (t.lane l).state = .tracking { x with lead := lead, launch := launch, dist := d })
      ∧ (lead ≤ 16 * g.c → 0 < d → (t.lane l).overfillDue = (s.lane l).overfillDue
          ∧ (t.lane l).pausePending = (s.lane l).pausePending ∧ (t.lane l).records = (s.lane l).records)
      ∧ (lead ≤ 16 * g.c → d = 0 → (t.lane l).records = rest
          ∧ s.tells t (.launched l x.tray x.partner p.ticket p.length)
          ∧ ((x.merge ≠ s.nextQ g ∨ (s.lane l).inflight ≠ []) → ∀ y h pr dp, y ∈ x.trays →
              s.tray y = .reserved h pr dp →
              t.tray y = .launched { holder := l, ticket := p.ticket, length := p.length } pr dp)
          ∧ (s.holdBlocked l = true → (t.lane l).state = .releasing m.reading (s.lane l).copy.holdClearMs
              ∧ (t.lane l).overfillDue = (s.lane l).overfillDue)
          ∧ (s.holdBlocked l = false → (s.lane l).overfillDue = true → (t.lane l).state = .faulted .overfill)
          ∧ (s.holdBlocked l = false → (s.lane l).overfillDue = false → (s.lane l).pausePending = true →
              (t.lane l).state = .paused)
          ∧ (s.holdBlocked l = false → (s.lane l).overfillDue = false → (s.lane l).pausePending = false →
              (t.lane l).state = .idle))
      ∧ s.tellsFault t l
      ∧ (∀ k, k ≠ l → t.lane k = (s.clock m).lane k)

/-- R33, R94, R101, R102, R104: a COMMITTED lane fires at its launch point. Its trays go from RESERVED to LAUNCHED with
the head's length and ticket, partner and disable pending kept; a flight joins the end of the list with its flag clear;
the head leaves; both launch counts rise; a LAUNCHED notice is posted; and the lane is RELEASING, its hold-clear timer
started from its active copy. A hold eye that is clear already ends the release at once: the flight's flag is set, and
the lane goes to IDLE, to PAUSED under a pending pause, or to FAULTED(OVERFILL) while that fault is due. With a lead of
0 and no other flight the launch lands at the same position, its merge position (that the fire comes first is the
model's reading, notes/assumptions/13.md). It fires so also where a pitch event falls at the same count and leaves the
loop RUNNING, whatever the other lanes do there. -/
def Obligations.CommittedLaneFiresAtItsLaunchPoint : Prop :=
  (∀ (m : Moment) (held : Nat) (eye : List EyeLevel) (s u : State) (g : Geometry) (l : LaneId) (x : Solution)
      (p : Measured) (rest : List ParcelRecord) (e : InFlight), s.pst.geometry = some g → g.InRange → 5 ≤ held →
      s.ltk.loop = .running → s.ltk.recount = 0 → s.nextQ g % g.c ≠ 0 → (∀ t, ¬ g.centreAt t (s.nextQ g)) →
      (s.lane l).state = .committed x → x.launch = s.nextQ g → (s.lane l).records = .atHold p :: rest →
      (∀ e, (s.lane l).inflight.head? = some e → e.merge ≠ s.nextQ g) →
      (∀ k, k ≠ l → s.laneQuietAt (s.nextQ g) k) →
      u = s.counted g m (s.eyeAfter eye) →
      e = { tray := x.tray, partner := x.partner, ticket := p.ticket, length := p.length, merge := x.merge,
            holdClear := false } →
      ∃ t, exec (.encoderCount m held eye) s = .next t
        ∧ (t.lane l).records = rest
        ∧ (t.lane l).counters
            = { (s.lane l).counters with launches := min ((s.lane l).counters.launches + 1) 65535 }
        ∧ (t.lane l).launchesRev = min ((s.lane l).launchesRev + 1) 65535
        ∧ (∀ k, s.holdsLane k l → (s.link k).queue.length < 32 → (s.link k).queue
            ++ [.notice (.launched l x.tray x.partner p.ticket p.length)] <+: (t.link k).queue)
        ∧ ((x.merge ≠ s.nextQ g ∨ (s.lane l).inflight ≠ []) →
            (∀ y h pr d, y ∈ x.trays → s.tray y = .reserved h pr d →
              t.tray y = .launched { holder := l, ticket := p.ticket, length := p.length } pr d)
            ∧ (s.holdBlocked l = true →
              t.lane l = { u.lane l with
                state := .releasing m.reading (s.lane l).copy.holdClearMs,
                records := rest,
                inflight := (s.lane l).inflight ++ [e],
                counters := (t.lane l).counters,
                launchesRev := (t.lane l).launchesRev }
              ∧ ∀ k, s.holdsLane k l → (s.link k).queue.length < 32 → (t.link k).queue = (s.link k).queue
                  ++ [.notice (.launched l x.tray x.partner p.ticket p.length)])
            ∧ (s.holdBlocked l = false →
              (t.lane l).inflight = (s.lane l).inflight ++ [{ e with holdClear := true }]))
        ∧ (x.merge = s.nextQ g → (s.lane l).inflight = [] → (t.lane l).inflight = []
            ∧ ∀ y h pr d, y ∈ x.trays → s.tray y = .reserved h pr d → t.tray y =
              if s.holdBlocked l then .unverified d
              else .loaded (some { holder := l, ticket := p.ticket, length := p.length }) pr 0 true d)
        ∧ (s.holdBlocked l = true → (t.lane l).state = .releasing m.reading (s.lane l).copy.holdClearMs
            ∧ ∀ y, y ∉ x.trays → t.tray y = s.tray y)
        ∧ (s.holdBlocked l = false →
            ((s.lane l).overfillDue = true → (t.lane l).state = .faulted .overfill)
            ∧ ((s.lane l).overfillDue = false → (s.lane l).pausePending = true → (t.lane l).state = .paused)
            ∧ ((s.lane l).overfillDue = false → (s.lane l).pausePending = false → (t.lane l).state = .idle)
            ∧ ∀ y, y ∉ x.trays → s.tray y ≠ .free (some l) → t.tray y = s.tray y)
        ∧ OtherLanesKept l u t ∧ LoopKept u t ∧ LinksKeptButNotices s t)
  ∧ ∀ (m : Moment) (held : Nat) (eye : List EyeLevel) (s : State) (g : Geometry) (l : LaneId) (x : Solution)
    (p : Measured) (rest : List ParcelRecord), s.pst.geometry = some g → g.InRange → 5 ≤ held →
    s.ltk.loop = .running → s.ltk.recount = 0 → (s.nextQ g ≠ g.c ∨ s.ltk.windowOpen = false) →
    (s.nextQ g % g.c = 0 → ¬ s.losesSpeed g m) → (∀ t, ¬ g.centreAt t (s.nextQ g)) →
    (s.lane l).state = .committed x → x.launch = s.nextQ g → (s.lane l).records = .atHold p :: rest →
    ∃ t, exec (.encoderCount m held eye) s = .next t
      ∧ (t.lane l).records = rest
      ∧ (t.lane l).counters.launches = min ((s.lane l).counters.launches + 1) 65535
      ∧ (t.lane l).launchesRev = min ((s.lane l).launchesRev + 1) 65535
      ∧ s.tells t (.launched l x.tray x.partner p.ticket p.length) ∧ s.tellsFault t l
      ∧ (s.holdBlocked l = true → (t.lane l).state = .releasing m.reading (s.lane l).copy.holdClearMs)
      ∧ (s.holdBlocked l = false →
          ((s.lane l).overfillDue = true → (t.lane l).state = .faulted .overfill)
          ∧ ((s.lane l).overfillDue = false → (s.lane l).pausePending = true → (t.lane l).state = .paused)
          ∧ ((s.lane l).overfillDue = false → (s.lane l).pausePending = false → (t.lane l).state = .idle))
      ∧ (x.merge ≠ s.nextQ g → (∀ e, (s.lane l).inflight.head? = some e → e.merge ≠ s.nextQ g) →
          (t.lane l).inflight = (s.lane l).inflight ++ [{
            tray := x.tray, partner := x.partner, ticket := p.ticket, length := p.length, merge := x.merge,
            holdClear := !s.holdBlocked l }]
          ∧ ((∀ k z, k ≠ l → (s.lane k).state.solution? = some z → ∀ y ∈ x.trays, y ∉ z.trays) →
            (∀ k e, k ≠ l → e ∈ (s.lane k).inflight → ∀ y ∈ x.trays, y ∉ e.trays) →
            ∀ y h pr d, y ∈ x.trays → s.tray y = .reserved h pr d →
              t.tray y = .launched { holder := l, ticket := p.ticket, length := p.length } pr d))

/-- R34, R26, R106: a flight lands at its merge position, in every lane state, and with it those behind it whose merge
positions lie at or behind Q, down to the first that does not. With a flight's flag set each of its trays goes from
LAUNCHED to LOADED, first pass pending, with a LOAD notice; with the flag clear each is UNVERIFIED, with an UNVERIFIED
notice; disable pending is kept, and the lane's state is not changed. They land so at every count that brings the
position, in every loop state, whatever else falls at it: a pitch event, a sample of another tray, or another lane's
fire. (There no claim and no flight of another lane names these trays, and none of them, nor a member of a pair with
one, is at the check station; and where the lane fires at that same event, its new flight stands behind those that
stay.) -/
def Obligations.FlightLandsAtItsMergePosition : Prop :=
  (∀ (m : Moment) (held : Nat) (eye : List EyeLevel) (s u : State) (g : Geometry) (l : LaneId) (e : InFlight)
      (behind later : List InFlight), s.pst.geometry = some g → g.InRange → s.ltk.q < g.n * g.c → 5 ≤ held →
      s.ltk.loop ≠ .stopped → s.ltk.recount = 0 → s.nextQ g % g.c ≠ 0 →
      (s.ltk.loop = .unsynced ∨ ∀ t, ¬ g.centreAt t (s.nextQ g)) → (s.lane l).inflight = e :: behind ++ later →
      e.merge = s.nextQ g → (∀ x, (s.lane l).state = .committed x → x.launch ≠ s.nextQ g) →
      (∀ f ∈ behind, signedDistance (g.n * g.c) (s.nextQ g) f.merge ≤ 0) →
      (∀ f, later.head? = some f → 0 < signedDistance (g.n * g.c) (s.nextQ g) f.merge) →
      (e :: behind).Pairwise (fun f f' => ∀ y ∈ f.trays, y ∉ f'.trays) →
      (∀ k, k ≠ l → s.laneQuietAt (s.nextQ g) k) → u = s.counted g m (s.eyeAfter eye) →
      ∃ t, exec (.encoderCount m held eye) s = .next t
        ∧ t.lane l = { u.lane l with inflight := later }
        ∧ (∀ f y ld p d, f ∈ e :: behind → y ∈ f.trays → s.tray y = .launched ld p d →
            t.tray y = if f.holdClear then .loaded (some ld) p 0 true d else .unverified d)
        ∧ (∀ y, (∀ f ∈ e :: behind, y ∉ f.trays) → t.tray y = s.tray y)
        ∧ (∀ k, (s.link k).discharge = true → (s.link k).queue.length + behind.length < 32 →
            (t.link k).queue = (s.link k).queue ++ (e :: behind).map (fun f => .notice
              (if f.holdClear then .load f.tray false (t.tray f.tray)
               else .unverified f.tray f.partner .mergeUncleared l f.ticket)))
        ∧ OtherLanesKept l u t ∧ LoopKept u t ∧ LinksKeptButNotices s t)
  ∧ ∀ (m : Moment) (held : Nat) (eye : List EyeLevel) (s : State) (g : Geometry) (l : LaneId) (e : InFlight)
    (behind later : List InFlight), s.pst.geometry = some g → g.InRange → 5 ≤ held → s.ltk.recount = 0 →
    (s.nextQ g ≠ g.c ∨ s.ltk.windowOpen = false) → (s.lane l).inflight = e :: behind ++ later →
    e.merge = s.nextQ g → (∀ x, (s.lane l).state = .committed x → x.launch ≠ s.nextQ g) →
    (∀ f ∈ behind, signedDistance (g.n * g.c) (s.nextQ g) f.merge ≤ 0) →
    (∀ f, later.head? = some f → 0 < signedDistance (g.n * g.c) (s.nextQ g) f.merge) →
    (e :: behind).Pairwise (fun f f' => ∀ y ∈ f.trays, y ∉ f'.trays) →
    (∀ k x, (s.lane k).state.solution? = some x → ∀ f ∈ e :: behind, ∀ y ∈ f.trays, y ∉ x.trays) →
    (∀ k e', k ≠ l → e' ∈ (s.lane k).inflight → ∀ f ∈ e :: behind, ∀ y ∈ f.trays, y ∉ e'.trays) →
    (s.ltk.loop = .unsynced ∨ ∀ z, g.centreAt z (s.nextQ g) → ∀ f ∈ e :: behind, ∀ y ∈ f.trays,
      y ≠ z ∧ ∀ p, (s.tray z).pair = some p → p.tray ≠ y) →
    ∃ t, exec (.encoderCount m held eye) s = .next t
      ∧ ((∀ x, (s.lane l).state ≠ .tracking x) → (t.lane l).inflight = later)
      ∧ (∀ x, (s.lane l).state = .tracking x → (t.lane l).inflight = later
          ∨ ∃ f, f.tray = x.tray ∧ f.partner = x.partner ∧ (t.lane l).inflight = later ++ [f])
      ∧ ((s.lane l).state.solution? = none → (s.lane l).state ≠ .waiting → (t.lane l).state = (s.lane l).state)
      ∧ (∀ f y ld p d, f ∈ e :: behind → y ∈ f.trays → s.tray y = .launched ld p d →
          t.tray y = if f.holdClear then .loaded (some ld) p 0 true d else .unverified d)
      ∧ (∀ f ld p d, f ∈ e :: behind → s.tray f.tray = .launched ld p d →
          s.tells t (if f.holdClear then .load f.tray false (t.tray f.tray)
            else .unverified f.tray f.partner .mergeUncleared l f.ticket))

/-! ### Operator pacing -/

/-- R140, R141: at a pitch event that carries RUNNING the counter of a MANUAL lane in IDLE, WAITING, TRACKING, COMMITTED
or RELEASING rises by 1. When it comes to the active interval or beyond a beat falls: the counter is 0, the pending
interval is active, the cue is PLACE where the list has room and WAIT where it is full, and a call left unanswered is an
idle beat. Which comes first of the beat and the lane's own turn is the command's to say (R144, notes/assumptions/3.md).
So a TRACKING lane that the same event takes to PAUSED or FAULTED is left out, as is one that fires into IDLE and adopts
another profile there (R154); and where such a fire makes room in a full list, the cue is left open. -/
def Obligations.BeatFallsAtTheActiveInterval : Prop :=
  ∀ (m : Moment) (held : Nat) (eye : List EyeLevel) (s : State) (g : Geometry) (l : LaneId) (period : Nat),
    s.RunningPitch g m held period l → (s.lane l).mode = .manual → ¬ s.atRest l →
    ∃ t, exec (.encoderCount m held eye) s = .next t
      ∧ (((∀ x, (s.lane l).state ≠ .tracking x)
          ∨ (s.lane l).overfillDue = false ∧ (s.lane l).pausePending = false) → ¬ t.atRest l)
      ∧ (¬ t.atRest l → ((∀ x, (s.lane l).state ≠ .tracking x) ∨ (t.lane l).state ≠ .idle
            ∨ (s.lane l).copy = s.profile (s.lane l).profile) →
          ((s.paceOf l).beat + 1 < (s.paceOf l).active →
            t.paceOf l = { s.paceOf l with beat := (s.paceOf l).beat + 1 }
            ∧ (t.lane l).counters.idleBeats = (s.lane l).counters.idleBeats)
          ∧ ((s.paceOf l).active ≤ (s.paceOf l).beat + 1 →
            (t.paceOf l).beat = 0 ∧ (t.paceOf l).active = (s.paceOf l).pending
            ∧ (t.paceOf l).pending = (s.paceOf l).pending
            ∧ ((s.lane l).records.length < 4 → (t.paceOf l).cue = .place)
            ∧ (4 ≤ (t.lane l).records.length → (t.paceOf l).cue = .wait)
            ∧ (t.lane l).counters.idleBeats = if (s.paceOf l).cue = .place
                then min ((s.lane l).counters.idleBeats + 1) 65535 else (s.lane l).counters.idleBeats))
      ∧ (((s.lane l).state = .idle ∨ (∃ x, (s.lane l).state = .committed x) ∨ ∃ a b, (s.lane l).state = .releasing a b) →
          t.lane l = { (s.clock m).lane l with
            counters := { (s.lane l).counters with idleBeats := (t.lane l).counters.idleBeats } })
      ∧ (((s.lane l).state = .waiting ∨ ∃ x, (s.lane l).state = .tracking x) →
          (t.lane l).records = (s.lane l).records ∨ (t.lane l).records = (s.lane l).records.tail)
      ∧ (∀ k, k ≠ l → t.lane k = (s.clock m).lane k ∧ t.paceOf k = s.paceOf k)

/-! ### Frames, bytes, queues and live timers -/

/-- R162 to R164: the bytes of a frame, one after the other, on a link whose receiver is hunting, are that frame,
received at its last byte; whatever the CRC says of it. That the last byte performs the request the frame spells, as
FRAME_RECEIVED does, is the model's reading (notes/assumptions/6.md). -/
def Obligations.BytesSpellTheFrame : Prop :=
  ∀ (k : LinkId) (kind tag : Byte) (payload : List Byte) (crc : BitVec 16) (s : State)
    (times : List (Moment × Byte)) (m : Moment) (last : Byte), payload.length ≤ 250 →
    (s.link k).receiver = .hunting →
    times.map Prod.snd ++ [last]
      = 0xA5#8 :: BitVec.ofNat 8 (payload.length + 2) :: kind :: tag :: payload ++ bytesOfTwo crc →
    State.runAll (times.map (fun x => Instr.byteReceived x.1 k x.2) ++ [.byteReceived m k last]) s
      = exec (.frameReceived m k kind tag payload crc) s

/-- R162, R163, R171: what comes to a link. A valid frame that spells a request, while the receiver hunts, is that
request. A frame whose CRC differs or whose Kind is no request kind is counted and the receiver hunts; a framing error
or a gap counts only while a frame is being collected; while hunting a byte other than 0xA5 is discarded, and 0xA5
begins a frame; a Length outside 2 to 252 is a framing error; and a frame that has been sent leaves the head of the
queue. That FRAME_RECEIVED performs its request as the request's own row does is the model's reading
(notes/assumptions/6.md), and that a gap and the end of a sending are told by their commands is its choice
(notes/assumptions/2.md). -/
def Obligations.FramesAreTakenOrCounted : Prop :=
  ∀ (m : Moment) (k : LinkId) (s e h : State) (n : Nat), n = min ((s.link k).frameErrors + 1) 65535 →
    e = (s.clock m).modLink k (fun x => { x with frameErrors := n, receiver := .hunting }) →
    h = s.clock m →
    (∀ (tag : Byte) (r : Request), r.WellFormed = true → (s.link k).receiver = .hunting →
        ∃ t, exec (.frameReceived m k r.kind.code tag r.payload (frameCrc r.kind.code tag r.payload)) s = .next t
          ∧ exec (r.toInstr m k tag) s = .next t)
    ∧ (∀ kind tag payload crc, (crc ≠ frameCrc kind tag payload ∨ kind.toNat = 0 ∨ 0x3F < kind.toNat) →
        exec (.frameReceived m k kind tag payload crc) s = .next e)
    ∧ ((s.link k).receiver = .hunting →
        exec (.framingError m k) s = .next h ∧ exec (.frameGapTimeout m k) s = .next h
        ∧ (∀ b, b ≠ 0xA5#8 → exec (.byteReceived m k b) s = .next h)
        ∧ exec (.byteReceived m k 0xA5#8) s = .next (h.modLink k (fun x => { x with receiver := .collecting [] })))
    ∧ (∀ taken, (s.link k).receiver = .collecting taken →
        exec (.framingError m k) s = .next e ∧ exec (.frameGapTimeout m k) s = .next e)
    ∧ ((s.link k).receiver = .collecting [] → ∀ b : Byte, (b.toNat < 2 ∨ 252 < b.toNat) →
        exec (.byteReceived m k b) s = .next e)
    ∧ exec (.frameSent m k) s = .next (h.modLink k (fun x => { x with queue := x.queue.tail }))

/-- R165, R172, R174: every notice, by the table of R174 (`State.hears`), is offered to the links that hold an addressed
role or window. It joins the queue of each link that hears it while fewer than 32 places are in use, and is dropped
with overflow pending set otherwise; a link that does not hear it is as it was, and so is the rest of the part. -/
def Obligations.NoticeJoinsTheQueuesThatHearIt : Prop :=
  ∀ (s : State) (n : Notice),
    (∀ k, s.hears k n → (s.link k).queue.length < 32 →
      (s.post n).link k = { s.link k with queue := (s.link k).queue ++ [.notice n] })
    ∧ (∀ k, s.hears k n → 32 ≤ (s.link k).queue.length → (s.post n).link k = { s.link k with overflow := true })
    ∧ (∀ k, ¬ s.hears k n → (s.post n).link k = s.link k)
    ∧ s.post n = { s with links := (s.post n).links }

/-- R118, R168, R169: a running live timer expires. The link holds no role and no window, and its timer is idle; its
queue, receiver and counters stay. An IDLE or WAITING lane of its window goes to PAUSED, a TRACKING lane gives its claim
up, a COMMITTED or RELEASING lane has a pause pending, and every other lane stays. Where its
lanes are all at rest, a link that holds PLANNER is told. -/
def Obligations.LiveTimerExpiryDropsTheLink : Prop :=
  ∀ (m : Moment) (k : LinkId) (s : State), (s.link k).live.isSome = true →
    ∃ t, exec (.liveTimerExpiry m k) s = .next t ∧ t.unbound k ∧ (t.link k).live = none
      ∧ (t.link k).queue = (s.link k).queue ∧ (t.link k).receiver = (s.link k).receiver
      ∧ (t.link k).overruns = (s.link k).overruns ∧ (t.link k).frameErrors = (s.link k).frameErrors
      ∧ s.lanesLost m t (fun l => s.holdsLane k l)
      ∧ (∀ j, j ≠ k → (t.link j).planner = (s.link j).planner ∧ (t.link j).discharge = (s.link j).discharge
          ∧ (t.link j).window = (s.link j).window ∧ (t.link j).live = (s.link j).live)
      ∧ ((∀ l, s.holdsLane k l → s.atRest l ∧ ∀ j, j ≠ k → ¬ s.holdsLane j l) →
          ∀ j, j ≠ k → (s.link j).planner = true → (s.link j).queue.length < 32 →
            (t.link j).queue = (s.link j).queue
              ++ [.notice (.linkLapsed k (s.link k).planner (s.link k).discharge (s.link k).window)])
      ∧ LoopKept (s.clock m) t

/-! ### Requests -/

/-- R163 to R165: how a request of the dispatch table is taken. With 40 frames in the queue it is discarded and
counted; a Kind that names no request is UNKNOWN; a request other than BIND from a link with no role is NOT_BOUND; one
from a link that holds none of the roles it is admitted from is WRONG_ROLE; a payload of the wrong length is BAD_VALUE;
and a lane outside the window of a link admitted by LANE is OUT_OF_WINDOW. Every refusal changes nothing but the time,
the live timer and the queue. -/
def Obligations.RequestsAreCheckedInOrder : Prop :=
  ∀ (m : Moment) (k : LinkId) (tag : Byte) (s : State),
    (∀ r : Request, ¬ s.hasRoom k → exec (r.toInstr m k tag) s = .next
        ((s.heard m k).modLink k (fun x => { x with overruns := min (x.overruns + 1) 65535 })))
    ∧ (∀ (kind : Byte) (payload : List Byte), (s.link k).receiver = .hunting → payload.length ≤ 250 →
        1 ≤ kind.toNat → kind.toNat ≤ 0x3F → (∀ r : RequestKind, r.code ≠ kind) → s.hasRoom k →
        exec (.frameReceived m k kind tag payload (frameCrc kind tag payload)) s
          = .next ((s.heard m k).replied k kind tag (refusal .unknown)))
    ∧ (∀ r : Request, s.hasRoom k → s.unbound k → r.kind ≠ .bind →
        exec (r.toInstr m k tag) s = .next ((s.heard m k).replied k r.kind.code tag (refusal .notBound)))
    ∧ (∀ r : Request, s.hasRoom k → ¬ s.unbound k → r.kind ≠ .bind →
        (∀ role ∈ r.kind.admittedRoles, ¬ s.holdsRole k role) →
        exec (r.toInstr m k tag) s = .next ((s.heard m k).replied k r.kind.code tag (refusal .wrongRole)))
    ∧ (∀ (kind : RequestKind) (payload : List Byte), (s.link k).receiver = .hunting → payload.length ≤ 250 →
        s.hasRoom k → (kind = .bind ∨ ∃ role ∈ kind.admittedRoles, s.holdsRole k role) →
        (∀ r : Request, r.kind = kind → r.payload ≠ payload) →
        exec (.frameReceived m k kind.code tag payload (frameCrc kind.code tag payload)) s
          = .next ((s.heard m k).replied k kind.code tag (refusal .badValue)))
    ∧ (∀ (lane : Byte) (r : Request), s.hasRoom k → (s.link k).window.isSome = true →
        (∀ l, lane.toNat = l.val → ¬ s.holdsLane k l) →
        (r = .arm lane ∨ r = .pause lane ∨ r = .clear lane ∨ r = .laneStatus lane ∨ (∃ x, r = .announce lane x)
          ∨ ((s.link k).planner = false ∧ ∃ i, r = .setPace lane i)) →
        exec (r.toInstr m k tag) s = .next ((s.heard m k).replied k r.kind.code tag (refusal .outOfWindow)))

/-- R165, R183: reading a request's Kind and payload gives the request back, and nothing else is read as it. -/
def Obligations.DecodeEncodeRequest : Prop :=
  (∀ r : Request, decodeRequest r.kind.code r.payload = .request r) ∧
    ∀ (kind : Byte) (payload : List Byte) (r : Request), decodeRequest kind payload = .request r →
      r.kind.code = kind ∧ r.payload = payload

/-- R176: PING is answered with its bytes, up to 249; one of 250 is refused, and so is one from a link with no role. -/
def Obligations.PingIsEchoed : Prop :=
  ∀ (m : Moment) (k : LinkId) (tag : Byte) (bytes : List Byte) (s : State), s.hasRoom k →
    (¬ s.unbound k → bytes.length ≤ 249 →
      exec (.ping m k tag bytes) s = .next ((s.heard m k).replied k 0x01 tag (okReply (.echo bytes))))
    ∧ (¬ s.unbound k → bytes.length = 250 →
      exec (.ping m k tag bytes) s = .next ((s.heard m k).replied k 0x01 tag (refusal .badValue)))
    ∧ (s.unbound k →
      exec (.ping m k tag bytes) s = .next ((s.heard m k).replied k 0x01 tag (refusal .notBound)))

/-- R44, R79, R116, R151, R173, R177: the requests that report. Each reply is read at the moment the request is taken;
STATUS clears the sending link's overflow pending, LANE_STATUS the lane's overfill pending, and nothing else
changes. -/
def Obligations.ReportsAreReadAtOnce : Prop :=
  ∀ (m : Moment) (k : LinkId) (tag : Byte) (s : State), s.hasRoom k →
    (¬ s.unbound k → ∃ rep : StatusReport, exec (.status m k tag) s = .next
        (((s.heard m k).modLink k (fun x => { x with overflow := false })).replied k 0x02 tag (okReply (.status rep)))
      ∧ rep.loop = s.ltk.loop ∧ rep.q = s.ltk.q ∧ rep.revolution = s.ltk.revolution ∧ rep.slips = s.ltk.slips
      ∧ rep.resyncRequired = s.ltk.resyncRequired ∧ rep.resyncPending = s.ltk.resyncPending
      ∧ (∀ i1 i2 i3 i4, s.ltk.history = [i1, i2, i3, i4] → rep.pAvg = (i1 + i2 + i3 + i4 + 2) / 4)
      ∧ (s.ltk.history.length ≠ 4 → rep.pAvg = 0)
      ∧ rep.geometry = s.pst.geometry.map (fun g => (g.n, g.c))
      ∧ (∀ j, rep.roles.get j = ((s.link j).planner, (s.link j).discharge, (s.link j).window))
      ∧ rep.placesInUse = (s.link k).queue.length + 1 ∧ rep.overflowReported = (s.link k).overflow
      ∧ rep.frameErrors = (s.link k).frameErrors ∧ rep.overruns = (s.link k).overruns)
    ∧ ((s.link k).planner = true → ∀ number : Byte,
        (∀ i : ProfileId, number.toNat = i.val → ∃ bound : List LaneId,
          exec (.readProfile m k tag number) s = .next
            ((s.heard m k).replied k 0x0A tag (okReply (.profileRead (s.profile i) bound)))
          ∧ ∀ l, l ∈ bound ↔ (s.lane l).profile = i)
        ∧ (15 < number.toNat → exec (.readProfile m k tag number) s = .next
            ((s.heard m k).replied k 0x0A tag (refusal .badValue))))
    ∧ (((s.link k).planner = true ∨ (s.link k).discharge = true) → ∀ (base : BitVec 16) (count : Byte),
        (s.pst.geometry = none → exec (.mapRead m k tag base count) s = .next
            ((s.heard m k).replied k 0x14 tag (refusal .wrongState)))
        ∧ (∀ g, s.pst.geometry = some g →
          ((g.n ≤ base.toNat ∨ count.toNat = 0 ∨ 32 < count.toNat) → exec (.mapRead m k tag base count) s = .next
            ((s.heard m k).replied k 0x14 tag (refusal .badValue)))
          ∧ (base.toNat < g.n → 1 ≤ count.toNat → count.toNat ≤ 32 → exec (.mapRead m k tag base count) s = .next
            ((s.heard m k).replied k 0x14 tag (okReply (.map s.ltk.loop s.ltk.q s.ltk.revolution
              ((List.range count.toNat).map (fun i =>
                ((base.toNat + i) % g.n, s.tray ((base.toNat + i) % g.n))))))))))
    ∧ ∀ l, s.holdsLane k l → ∃ rep : LaneReport, exec (.laneStatus m k tag (laneByte l)) s = .next
        (((s.heard m k).modLane l (fun x => { x with overfillPending := false })).replied k 0x24 tag
          (okReply (.lane rep)))
      ∧ rep.mode = (s.lane l).mode ∧ rep.state = (s.lane l).state.name ∧ rep.fault = (s.lane l).state.fault?
      ∧ rep.pausePending = (s.lane l).pausePending ∧ rep.overfillDue = (s.lane l).overfillDue
      ∧ rep.leadMark = (s.lane l).leadMark ∧ rep.adoptPending = (s.lane l).adoptPending
      ∧ rep.overfillReported = (s.lane l).overfillPending ∧ rep.profile = (s.lane l).profile
      ∧ rep.records = (s.lane l).records ∧ rep.tickets = (s.lane l).tickets.length
      ∧ rep.inflight = (s.lane l).inflight ∧ rep.solution = (s.lane l).state.solution?
      ∧ rep.counters = (s.lane l).counters ∧ rep.launchesRev = (s.lane l).launchesRev
      ∧ ((s.lane l).mode = .manual → rep.cue = some (s.paceOf l).cue) ∧ ((s.lane l).mode ≠ .manual → rep.cue = none)

/-- R166, R169: BIND of PLANNER or DISCHARGE. A role the link holds already stays; one that another link holds is
refused, naming that link; one that no link holds is taken, and the live timer runs from this frame. -/
def Obligations.BindTakesAFreeRole : Prop :=
  ∀ (m : Moment) (k : LinkId) (tag base limit : Byte) (s : State), s.hasRoom k → BindingsSound s →
    ((s.link k).planner = true → exec (.bind m k tag 0 base limit) s = .next
        ((s.heard m k).replied k 0x03 tag (okReply (.bindings true (s.link k).discharge (s.link k).window))))
    ∧ (∀ j, j ≠ k → (s.link j).planner = true → exec (.bind m k tag 0 base limit) s = .next
        ((s.heard m k).replied k 0x03 tag (refusal .roleTaken (.holder j))))
    ∧ ((∀ j, (s.link j).planner = false) → exec (.bind m k tag 0 base limit) s = .next
        (((s.heard m k).modLink k (fun x => { x with planner := true, live := some m.reading })).replied k 0x03 tag
          (okReply (.bindings true (s.link k).discharge (s.link k).window))))
    ∧ ((s.link k).discharge = true → exec (.bind m k tag 1 base limit) s = .next
        ((s.heard m k).replied k 0x03 tag (okReply (.bindings (s.link k).planner true (s.link k).window))))
    ∧ (∀ j, j ≠ k → (s.link j).discharge = true → exec (.bind m k tag 1 base limit) s = .next
        ((s.heard m k).replied k 0x03 tag (refusal .roleTaken (.holder j))))
    ∧ ((∀ j, (s.link j).discharge = false) → exec (.bind m k tag 1 base limit) s = .next
        (((s.heard m k).modLink k (fun x => { x with discharge := true, live := some m.reading })).replied k 0x03 tag
          (okReply (.bindings (s.link k).planner true (s.link k).window))))
    ∧ (∀ role : Byte, 2 < role.toNat → exec (.bind m k tag role base limit) s = .next
        ((s.heard m k).replied k 0x03 tag (refusal .badValue)))

/-- R118, R166 to R168: BIND of LANE and UNBIND. A window whose base exceeds its limit or whose limit exceeds 7 is
refused; one that shares a lane with another link's is refused, naming the first such link; otherwise it is the link's
window. The lanes the link loses are paused, or have a pause pending, or stay; all others are untouched. UNBIND drops
every role and the window, and the live timer goes idle. -/
def Obligations.WindowsAreBoundAndLost : Prop :=
  ∀ (m : Moment) (k : LinkId) (tag : Byte) (s : State), s.hasRoom k → BindingsSound s →
    (∀ base limit : Byte, (limit.toNat < base.toNat ∨ 7 < limit.toNat) → exec (.bind m k tag 2 base limit) s = .next
        ((s.heard m k).replied k 0x03 tag (refusal .badValue)))
    ∧ (∀ (base limit l : LaneId) (j : LinkId), base ≤ limit → base ≤ l → l ≤ limit → j ≠ k → s.holdsLane j l →
        (∀ i x, i ≠ k → base ≤ x → x ≤ limit → s.holdsLane i x → j ≤ i) →
        exec (.bind m k tag 2 (laneByte base) (laneByte limit)) s = .next
          ((s.heard m k).replied k 0x03 tag (refusal .windowOverlap (.holder j))))
    ∧ (∀ base limit : LaneId, base ≤ limit → (∀ j x, j ≠ k → base ≤ x → x ≤ limit → ¬ s.holdsLane j x) →
        ∃ t, exec (.bind m k tag 2 (laneByte base) (laneByte limit)) s = .next t
          ∧ (t.link k).window = some ⟨base, limit⟩ ∧ (t.link k).planner = (s.link k).planner
          ∧ (t.link k).discharge = (s.link k).discharge ∧ (t.link k).live = some m.reading
          ∧ (s.link k).queue ++ [.reply 0x03 tag
              (okReply (.bindings (s.link k).planner (s.link k).discharge (some ⟨base, limit⟩)))] <+: (t.link k).queue
          ∧ s.lanesLost m t (fun l => s.holdsLane k l ∧ ¬ (base ≤ l ∧ l ≤ limit))
          ∧ (∀ j, j ≠ k → (t.link j).window = (s.link j).window ∧ (t.link j).planner = (s.link j).planner
              ∧ (t.link j).discharge = (s.link j).discharge ∧ (t.link j).live = (s.link j).live)
          ∧ LoopKept (s.clock m) t)
    ∧ (¬ s.unbound k → ∃ t, exec (.unbind m k tag) s = .next t ∧ t.unbound k ∧ (t.link k).live = none
          ∧ (t.link k).queue = (s.link k).queue ++ [.reply 0x04 tag (okReply (.roles false false false))]
          ∧ s.lanesLost m t (fun l => s.holdsLane k l)
          ∧ (∀ j, j ≠ k → (t.link j).window = (s.link j).window ∧ (t.link j).planner = (s.link j).planner
              ∧ (t.link j).discharge = (s.link j).discharge ∧ (t.link j).live = (s.link j).live)
          ∧ LoopKept (s.clock m) t)

/-! ### The planner's settings -/

/-- R159, R160 (with R22, R46, R61, R83, R122, R135, R148): SET_GEOMETRY. A field out of its range is refused BAD_VALUE,
naming the first; a moving loop, a RELEASING lane or a flight is refused BUSY; otherwise every block is set as the
table of R160 has it, with the STATE event of cause GEOMETRY behind the reply. -/
def Obligations.SetGeometryRebuildsTheLoop : Prop :=
  ∀ (m : Moment) (k : LinkId) (tag : Byte) (w : GeometryWords) (s : State) (g : Geometry), (s.link k).planner = true →
    s.hasRoom k → g = GeometryWords.toGeometry w →
    (¬ g.InRange → ∃ i, exec (.setGeometry m k tag w) s = .next
        ((s.heard m k).replied k 0x08 tag (refusal .badValue (.geometryField i)))
      ∧ g.inRange[i]? = some false ∧ ∀ j, j < i → g.inRange[j]? = some true)
    ∧ (g.InRange → (s.ltk.loop = .crawling ∨ s.ltk.loop = .running
        ∨ (∃ l a b, (s.lane l).state = .releasing a b) ∨ ∃ l, (s.lane l).inflight ≠ []) →
      exec (.setGeometry m k tag w) s = .next
        ((s.heard m k).replied k 0x08 tag (refusal .busy (.loop s.ltk.loop))))
    ∧ (g.InRange → s.ltk.loop ≠ .crawling → s.ltk.loop ≠ .running → (∀ l a b, (s.lane l).state ≠ .releasing a b) →
        (∀ l, (s.lane l).inflight = []) →
      exec (.setGeometry m k tag w) s = .next (State.posting
        (State.replied
          { s.heard m k with
            ltk := { loop := .unsynced, q := 0, movement := false, lastPitch := none, history := [], stall := none,
                     slips := 0, resyncRequired := false, resyncPending := false, armed := true,
                     windowOpen := false, recount := 0, overspeedArmed := true, revolution := 0 }
            tmap := List.replicate g.n (.unverified false)
            csm := { fRev := 0, fPrev := 0 }
            eal := { rotation := s.eal.rotation, position := 0,
                     shares := s.eal.shares.map (fun x => { reload := x.reload, counter := x.reload, outstanding := 0 }) }
            lanes := (s.heard m k).lanes.map (fun x => { x with
              state := (if x.mode = .absent then .absent else .paused),
              records := [], tickets := [], inflight := [], pausePending := false, overfillPending := false,
              overfillDue := false, leadMark := false, launchesRev := 0 })
            pace := s.pace.map (fun x => { x with beat := 0, cue := .dark })
            pst := { s.pst with geometry := some g } }
          k 0x08 tag (okReply (.geometry g)))
        [.state s.ltk.loop .unsynced .geometry]))

/-- R150, R152 to R156, R146: WRITE_PROFILE stores the record clamped, with I_max raised to I_min, and BIND_PROFILE
binds a lane. A lane so concerned is marked adoption pending, or adopts at once in ABSENT; every other lane stays. -/
def Obligations.ProfilesReachTheirLanes : Prop :=
  ∀ (m : Moment) (k : LinkId) (tag : Byte) (s : State), (s.link k).planner = true → s.hasRoom k →
    (∀ (number : Byte) (w : ProfileWords), (15 < number.toNat ∨ 1 < w.mode.toNat) →
      exec (.writeProfile m k tag number w) s = .next ((s.heard m k).replied k 0x09 tag (refusal .badValue)))
    ∧ (∀ (number : Byte) (w : ProfileWords) (i : ProfileId) (p : Profile), number.toNat = i.val → w.mode.toNat ≤ 1 →
      p = { tXfer := max 50000 (min 2000000 w.tXfer.toNat), vB := max 300 (min 3000 w.vB.toNat),
            guard := max 1 (min 8 w.guard.toNat), holdClearMs := max 100 (min 10000 w.holdClearMs.toNat),
            minLength := max 20 (min 300 w.minLength.toNat), cap := max 1 (min 8 w.cap.toNat),
            mode := if w.mode = 0 then .fixed else .auto, fixed := max 1 (min 255 w.fixed.toNat),
            iMin := max 1 (min 255 w.iMin.toNat),
            iMax := max (max 1 (min 255 w.iMin.toNat)) (max 1 (min 255 w.iMax.toNat)) } →
      ∃ (t : State) (clamped : Bool), exec (.writeProfile m k tag number w) s = .next t
        ∧ t.links = ((s.heard m k).replied k 0x09 tag ⟨.ok clamped, .profileWritten i p⟩).links
        ∧ (clamped = false ↔ p.tXfer = w.tXfer.toNat ∧ p.vB = w.vB.toNat ∧ p.guard = w.guard.toNat
            ∧ p.holdClearMs = w.holdClearMs.toNat ∧ p.minLength = w.minLength.toNat ∧ p.cap = w.cap.toNat
            ∧ p.fixed = w.fixed.toNat ∧ p.iMin = w.iMin.toNat ∧ p.iMax = w.iMax.toNat)
        ∧ t.profile i = p ∧ (∀ j, j ≠ i → t.profile j = s.profile j) ∧ t.pst.geometry = s.pst.geometry
        ∧ (∀ l, (s.lane l).profile ≠ i → t.lane l = (s.clock m).lane l ∧ t.paceOf l = s.paceOf l)
        ∧ (∀ l, (s.lane l).profile = i → (s.lane l).state ≠ .absent →
            t.lane l = { (s.clock m).lane l with adoptPending := true } ∧ t.paceOf l = s.paceOf l)
        ∧ (∀ l, (s.lane l).profile = i → (s.lane l).state = .absent →
            t.lane l = { (s.clock m).lane l with copy := p, adoptPending := false }
            ∧ Pace.Adopted (s.lane l).copy p (s.paceOf l) (t.paceOf l))
        ∧ t.ltk = s.ltk ∧ t.tmap = s.tmap ∧ t.csm = s.csm ∧ t.eal = s.eal ∧ t.lines = s.lines
        ∧ t.micros = m.reading ∧ t.pending = s.pending)
    ∧ (∀ lane number : Byte, (7 < lane.toNat ∨ 15 < number.toNat) →
      exec (.bindProfile m k tag lane number) s = .next ((s.heard m k).replied k 0x0B tag (refusal .badValue)))
    ∧ (∀ (l : LaneId) (number : Byte) (i : ProfileId), number.toNat = i.val →
      ∃ t, exec (.bindProfile m k tag (laneByte l) number) s = .next t
        ∧ ((s.lane l).state ≠ .absent →
            t = ((s.heard m k).modLane l (fun x => { x with profile := i, adoptPending := true })).replied k 0x0B tag
              (okReply (.profileBound l i true)))
        ∧ ((s.lane l).state = .absent →
            t.lane l = { (s.clock m).lane l with profile := i, copy := s.profile i, adoptPending := false }
            ∧ Pace.Adopted (s.lane l).copy (s.profile i) (s.paceOf l) (t.paceOf l)
            ∧ t.links = ((s.heard m k).replied k 0x0B tag (okReply (.profileBound l i false))).links
            ∧ OtherLanesKept l (s.clock m) t ∧ MapKept s t ∧ LoopKept (s.clock m) t))

/-- R63, R123, R143, R156, R180: SET_LANE_MODE, checked for its values, for a lane that is PAUSED, FAULTED or ABSENT
with nothing in flight, and for a geometry record. Into ABSENT everything the lane holds goes but its counters, and
its copy is its record, as R156 has it of every ABSENT lane (that it adopts on the way is the model's reading,
notes/assumptions/17.md); out of ABSENT it is PAUSED and adopts; between AUTO and MANUAL its state and lists stay and
its pace starts or its beat counter becomes 0; the mode it has already changes nothing. -/
def Obligations.SetLaneModeChangesARestingLane : Prop :=
  ∀ (m : Moment) (k : LinkId) (tag : Byte) (s : State), (s.link k).planner = true → s.hasRoom k →
    (∀ lane mode : Byte, (7 < lane.toNat ∨ 2 < mode.toNat) →
      exec (.setLaneMode m k tag lane mode) s = .next ((s.heard m k).replied k 0x0C tag (refusal .badValue)))
    ∧ ∀ (l : LaneId) (mode : Byte) (md : LaneMode),
      (mode = 0 ∧ md = .absent ∨ mode = 1 ∧ md = .auto ∨ mode = 2 ∧ md = .manual) →
      ((¬ s.atRest l ∨ (s.lane l).inflight ≠ []) → exec (.setLaneMode m k tag (laneByte l) mode) s = .next
        ((s.heard m k).replied k 0x0C tag
          (refusal .busy (.laneBusy (s.lane l).state.name (s.lane l).inflight.length))))
      ∧ (s.atRest l → (s.lane l).inflight = [] → (s.lane l).mode = .absent → md ≠ .absent → s.pst.geometry = none →
        exec (.setLaneMode m k tag (laneByte l) mode) s = .next
          ((s.heard m k).replied k 0x0C tag (refusal .wrongState)))
      ∧ (s.atRest l → (s.lane l).inflight = [] → (s.lane l).mode = md →
        exec (.setLaneMode m k tag (laneByte l) mode) s = .next
          ((s.heard m k).replied k 0x0C tag (okReply (.laneMode l md (s.lane l).state.name))))
      ∧ (s.atRest l → (s.lane l).inflight = [] → (s.lane l).mode ≠ md →
          ((s.lane l).mode ≠ .absent ∨ s.pst.geometry ≠ none) →
        ∃ t, exec (.setLaneMode m k tag (laneByte l) mode) s = .next t
          ∧ (t.lane l).mode = md
          ∧ t.links = ((s.heard m k).replied k 0x0C tag (okReply (.laneMode l md (t.lane l).state.name))).links
          ∧ (md = .absent → (t.lane l).state = .absent ∧ (t.lane l).records = [] ∧ (t.lane l).tickets = []
              ∧ (t.lane l).pausePending = false ∧ (t.lane l).overfillPending = false
              ∧ (t.lane l).overfillDue = false ∧ (t.lane l).leadMark = false
              ∧ (t.lane l).copy = s.profile (s.lane l).profile ∧ (t.lane l).adoptPending = false
              ∧ (∀ x, t.tray x ≠ .free (some l)) ∧ (t.share l).outstanding = 0
              ∧ (t.paceOf l).beat = 0 ∧ (t.paceOf l).cue = .dark)
          ∧ (md ≠ .absent → (s.lane l).mode = .absent → (t.lane l).state = .paused ∧ (t.lane l).records = []
              ∧ (t.lane l).tickets = [] ∧ (t.lane l).overfillPending = false ∧ (t.lane l).overfillDue = false
              ∧ (t.lane l).pausePending = false ∧ (t.lane l).copy = s.profile (s.lane l).profile
              ∧ (t.lane l).adoptPending = false ∧ (t.paceOf l).cue = .dark)
          ∧ (md ≠ .absent → (s.lane l).mode ≠ .absent → t.lane l = { (s.clock m).lane l with mode := md }
              ∧ MapKept s t ∧ (t.paceOf l).beat = 0 ∧ (t.paceOf l).pending = (s.paceOf l).pending
              ∧ (md = .manual → (t.paceOf l).active = (s.paceOf l).pending
                  ∧ ((s.lane l).state = .paused → (t.paceOf l).cue = .dark)
                  ∧ ((∃ r, (s.lane l).state = .faulted r) → (t.paceOf l).cue = .alert))
              ∧ (md = .auto → (t.paceOf l).active = (s.paceOf l).active ∧ (t.paceOf l).cue = .dark))
          ∧ (t.lane l).counters = (s.lane l).counters ∧ (t.lane l).profile = (s.lane l).profile
          ∧ OtherLanesKept l (s.clock m) t ∧ MapKeptButEarmarks l s t ∧ LoopKept (s.clock m) t)

/-- R126, R130, R145: SET_ROTATION replaces the list whole, SET_QUOTA sets a reload value and lowers a counter above it,
and SET_PACE writes a pending interval clamped into the bounds of the active copy; each with its reply, and nothing
else of the part changes. -/
def Obligations.AllocationAndPaceAreSet : Prop :=
  ∀ (m : Moment) (k : LinkId) (tag : Byte) (s : State), s.hasRoom k →
    ((s.link k).planner = true → ∀ (count : Byte) (slots : List Byte),
      ((16 < count.toNat ∨ slots.length ≠ count.toNat ∨ ∃ b ∈ slots, 7 < b.toNat) →
        exec (.setRotation m k tag count slots) s = .next ((s.heard m k).replied k 0x0D tag (refusal .badValue)))
      ∧ (∀ ls : List LaneId, slots = ls.map laneByte → count.toNat = ls.length → ls.length ≤ 16 →
        ∃ weights : Bank 8 Nat, (∀ l, weights.get l = ls.count l) ∧
          exec (.setRotation m k tag count slots) s = .next (State.replied
            { s.heard m k with eal := { s.eal with rotation := ls, position := 0 } } k 0x0D tag
            (okReply (.rotation ls.length weights)))))
    ∧ ((s.link k).planner = true → ∀ quota : BitVec 16,
      (∀ lane : Byte, 7 < lane.toNat → exec (.setQuota m k tag lane quota) s = .next
        ((s.heard m k).replied k 0x0E tag (refusal .badValue)))
      ∧ ∀ (l : LaneId) (q c : Nat), q = min quota.toNat 1024 → c = min (s.share l).counter q →
        exec (.setQuota m k tag (laneByte l) quota) s = .next
          (((s.heard m k).modShare l (fun x => { x with reload := q, counter := c })).replied k 0x0E tag
            ⟨.ok (decide (1024 < quota.toNat)), .quota l q c⟩))
    ∧ (∀ interval : Byte,
      ((s.link k).planner = true → ∀ lane : Byte, 7 < lane.toNat → exec (.setPace m k tag lane interval) s = .next
        ((s.heard m k).replied k 0x0F tag (refusal .badValue)))
      ∧ ∀ (l : LaneId) (x : Nat), ((s.link k).planner = true ∨ s.holdsLane k l) →
        x = max (s.lane l).copy.iMin (min (s.lane l).copy.iMax interval.toNat) →
        exec (.setPace m k tag (laneByte l) interval) s = .next
          (((s.heard m k).modPace l (fun p => { p with pending := x })).replied k 0x0F tag
            ⟨.ok (decide (x ≠ interval.toNat)), .pace l x (s.paceOf l).active (s.lane l).copy.mode⟩))

/-! ### Requests on the map -/

/-- R32, R40, R41, R43: DISABLE_TRAYS and ENABLE_TRAYS over a window. Where no tray of it is RESERVED by a TRACKING
lane, each FREE or BLOCKED tray is DISABLED and each busy one has disable pending, and no other tray changes. Where the
window meets one claim of a TRACKING lane, in one member or in both, the first of its trays taken is DISABLED, the
claim is revoked and the partner freed, and a partner in the window is DISABLED in its turn; the other trays change as
before. ENABLE_TRAYS makes each DISABLED tray UNVERIFIED and clears each disable pending. The replies count the
trays. That the CLAIM_RELEASED stands before a LANE_FAULT of the same return is the model's reading
(notes/assumptions/12.md). -/
def Obligations.WindowsOfTraysAreDisabledAndEnabled : Prop :=
  ∀ (m : Moment) (k : LinkId) (tag : Byte) (s : State) (base limit : BitVec 16), (s.link k).planner = true →
    s.hasRoom k →
    (s.pst.geometry = none →
      exec (.disableTrays m k tag base limit) s = .next ((s.heard m k).replied k 0x10 tag (refusal .wrongState))
      ∧ exec (.enableTrays m k tag base limit) s = .next ((s.heard m k).replied k 0x11 tag (refusal .wrongState)))
    ∧ ∀ g : Geometry, s.pst.geometry = some g →
      ((limit.toNat < base.toNat ∨ g.n ≤ limit.toNat) →
        exec (.disableTrays m k tag base limit) s = .next ((s.heard m k).replied k 0x10 tag (refusal .badValue))
        ∧ exec (.enableTrays m k tag base limit) s = .next ((s.heard m k).replied k 0x11 tag (refusal .badValue)))
      ∧ (base.toNat ≤ limit.toNat → limit.toNat < g.n → s.tmap.length = g.n →
        ∀ window : List Nat, window = (List.range (limit.toNat + 1 - base.toNat)).map (fun i => base.toNat + i) →
        ((∀ x h p d y, x ∈ window → s.tray x = .reserved h p d → (s.lane h).state ≠ .tracking y) →
          ∃ t, exec (.disableTrays m k tag base limit) s = .next t
            ∧ (∀ x, x ∈ window → t.tray x = (s.tray x).withdrawn)
            ∧ (∀ x, x ∉ window → t.tray x = s.tray x)
            ∧ t.links = ((s.heard m k).replied k 0x10 tag
                (okReply (.disabled (s.idleTrays window) (s.busyTrays window) 0))).links
            ∧ t.lanes = (s.clock m).lanes ∧ t.pace = s.pace ∧ t.eal.rotation = s.eal.rotation
            ∧ LoopKept (s.clock m) t)
        ∧ (∀ (x : Nat) (h : LaneId) (p : Option Partner) (d : Bool) (y : Solution) (others : List Nat), x ∈ window →
          s.tray x = .reserved h p d → (s.lane h).state = .tracking y →
          (∀ q, p = some q → q.tray ≠ x ∧ (q.tray ∈ window → x < q.tray
            ∧ ∃ h' p', s.tray q.tray = .reserved h' p' false)) →
          others = window.filter (fun z => z ≠ x ∧ p.map Partner.tray ≠ some z) →
          (∀ z h' p' d' y', z ∈ others → s.tray z = .reserved h' p' d' → (s.lane h').state ≠ .tracking y') →
          ∃ t, exec (.disableTrays m k tag base limit) s = .next t ∧ t.tray x = .disabled
            ∧ (∀ z, z ∈ others → t.tray z = (s.tray z).withdrawn)
            ∧ (∀ q, p = some q → q.tray ∈ window → t.tray q.tray = .disabled)
            ∧ (∀ q h' p' d', p = some q → q.tray ∉ window → s.tray q.tray = .reserved h' p' d' →
                t.tray q.tray = if d' then .disabled else .free none)
            ∧ (∀ z, z ∉ window → p.map Partner.tray ≠ some z → s.tray z ≠ .free (some h) → t.tray z = s.tray z)
            ∧ (s.lane h).EndsWaiting (t.lane h).state
            ∧ (s.link k).queue ++ [.reply 0x10 tag (okReply (.disabled
                (s.idleTrays others + 1 + (if p.any (fun q => q.tray ∈ window) then 1 else 0))
                (s.busyTrays others) 1))] <+: (t.link k).queue
            ∧ (∀ j, j ≠ k → s.holdsLane j h → (s.link j).queue.length < 32 → (s.link j).queue
                ++ [.notice (.claimReleased h .trayDisabled (some y.tray) y.partner (t.lane h).state.name)]
                <+: (t.link j).queue)
            ∧ OtherLanesKept h (s.clock m) t ∧ LoopKept (s.clock m) t)
        ∧ ∃ (t : State) (a b : Nat), exec (.enableTrays m k tag base limit) s = .next t
            ∧ (∀ x, base.toNat ≤ x → x ≤ limit.toNat → t.tray x = match s.tray x with
                | .disabled => .unverified false
                | .reserved h p _ => .reserved h p false
                | .launched ld p _ => .launched ld p false
                | .loaded ld p c f _ => .loaded ld p c f false
                | .unverified _ => .unverified false
                | e => e)
            ∧ (∀ x, (x < base.toNat ∨ limit.toNat < x) → t.tray x = s.tray x)
            ∧ t.links = ((s.heard m k).replied k 0x11 tag (okReply (.enabled a b))).links
            ∧ a = (List.range (limit.toNat + 1 - base.toNat)).countP (fun i => s.tray (base.toNat + i) = .disabled)
            ∧ b = (List.range (limit.toNat + 1 - base.toNat)).countP
                (fun i => (s.tray (base.toNat + i)).disablePending = true)
            ∧ t.lanes = (s.clock m).lanes ∧ t.pace = s.pace ∧ t.eal = s.eal ∧ LoopKept (s.clock m) t)

/-- R25, R37, R39: DISCHARGED frees a LOADED tray or pair, each member by its own disable pending, LEAD first in the
reply, frees an UNVERIFIED tray, and makes a BLOCKED tray UNVERIFIED; CLEAR_BLOCK makes a BLOCKED tray UNVERIFIED; any
other state is STALE, and nothing changes. -/
def Obligations.DischargeReportsFreeTrays : Prop :=
  ∀ (m : Moment) (k : LinkId) (tag : Byte) (s : State) (tray : BitVec 16) (x : Nat), x = tray.toNat → s.hasRoom k →
    ((s.link k).discharge = true →
      (s.pst.geometry = none → exec (.discharged m k tag tray) s = .next
        ((s.heard m k).replied k 0x18 tag (refusal .wrongState)))
      ∧ ∀ g, s.pst.geometry = some g →
        (g.n ≤ x → exec (.discharged m k tag tray) s = .next ((s.heard m k).replied k 0x18 tag (refusal .badValue)))
        ∧ (x < g.n → s.tmap.length = g.n →
          (∀ ld c f d, s.tray x = .loaded ld none c f d → exec (.discharged m k tag tray) s = .next (State.replied
            { s.heard m k with tmap := s.tmap.set x (if d then .disabled else .free none) } k 0x18 tag
            (okReply (.trays [(x, if d then .disabled else .free)]))))
          ∧ (∀ ld ld' y r c c' f f' d d' p', s.tray x = .loaded ld (some ⟨y, r⟩) c f d → y ≠ x →
            s.tray y = .loaded ld' p' c' f' d' → exec (.discharged m k tag tray) s = .next (State.replied
            { s.heard m k with
              tmap := (s.tmap.set x (if d then .disabled else .free none)).set y (if d' then .disabled else .free none) }
            k 0x18 tag (okReply (.trays (match r with
              | .lead => [(x, if d then .disabled else .free), (y, if d' then .disabled else .free)]
              | .trail => [(y, if d' then .disabled else .free), (x, if d then .disabled else .free)])))))
          ∧ (∀ d, s.tray x = .unverified d → exec (.discharged m k tag tray) s = .next (State.replied
            { s.heard m k with tmap := s.tmap.set x (if d then .disabled else .free none) } k 0x18 tag
            (okReply (.trays [(x, if d then .disabled else .free)]))))
          ∧ (∀ n c, s.tray x = .blocked n c → exec (.discharged m k tag tray) s = .next (State.replied
            { s.heard m k with tmap := s.tmap.set x (.unverified false) } k 0x18 tag
            (okReply (.trays [(x, .unverified)]))))
          ∧ (((s.tray x).state = .free ∨ (s.tray x).state = .reserved ∨ (s.tray x).state = .launched
              ∨ (s.tray x).state = .disabled) → exec (.discharged m k tag tray) s = .next
            ((s.heard m k).replied k 0x18 tag (refusal .stale (.present (s.tray x).state))))))
    ∧ (((s.link k).discharge = true ∨ (s.link k).planner = true) →
      (s.pst.geometry = none → exec (.clearBlock m k tag tray) s = .next
        ((s.heard m k).replied k 0x19 tag (refusal .wrongState)))
      ∧ ∀ g, s.pst.geometry = some g →
        (g.n ≤ x → exec (.clearBlock m k tag tray) s = .next ((s.heard m k).replied k 0x19 tag (refusal .badValue)))
        ∧ (x < g.n → s.tmap.length = g.n →
          (∀ n c, s.tray x = .blocked n c → exec (.clearBlock m k tag tray) s = .next (State.replied
            { s.heard m k with tmap := s.tmap.set x (.unverified false) } k 0x19 tag
            (okReply (.tray x .unverified))))
          ∧ ((s.tray x).state ≠ .blocked → exec (.clearBlock m k tag tray) s = .next
            ((s.heard m k).replied k 0x19 tag (refusal .stale (.present (s.tray x).state))))))

/-! ### Restart and resynchronisation -/

/-- R178 (with R22, R47, R61, R82, R121, R135, R148, R153): a restart, by RESTART or by the restart input. Every block
is set as the table of R178 has it; the queues are emptied, a RESTART's reply is its link's first frame, and the STATE
event of cause RESTART follows. The input acts at its rise alone, and a fall readies it. -/
def Obligations.RestartSetsEveryBlock : Prop :=
  ∀ (m : Moment) (s u : State) (restarted : State → State),
    (restarted = fun v => { v with
      ltk := { loop := .unsynced, q := v.ltk.q, movement := false, lastPitch := none, history := [], stall := none,
               slips := 0, resyncRequired := false, resyncPending := false, armed := true, windowOpen := false,
               recount := 0, overspeedArmed := true, revolution := 0 }
      tmap := v.tmap.map (fun e => if e = .disabled then .disabled else .unverified false)
      csm := { fRev := 0, fPrev := 0 }
      eal := { rotation := v.eal.rotation, position := 0,
               shares := v.eal.shares.map (fun x => { reload := x.reload, counter := x.reload, outstanding := 0 }) }
      lanes := v.lanes.map (fun x => { x with
        state := (if x.mode = .absent then .absent else .paused),
        records := [], tickets := [], inflight := [], pausePending := false, overfillPending := false,
        overfillDue := false, leadMark := false, launchesRev := 0,
        counters := { noReads := 0, glitches := 0, launches := 0, missed := 0, early := 0, idleBeats := 0 } })
      pace := v.pace.map (fun x => { x with beat := 0, cue := .dark })
      links := v.links.map (fun x => { x with
        queue := [], frameErrors := 0, overruns := 0, overflow := false,
        live := if x.live.isSome then some m.reading else none }) }) →
    u = { s.clock m with lines := { s.lines with restartActive := true } } →
    (∀ (k : LinkId) (tag : Byte), (s.link k).planner = true → s.hasRoom k →
      exec (.restart m k tag) s = .next (State.posting
        ((restarted (s.heard m k)).replied k 0x13 tag (okReply .none)) [.state s.ltk.loop .unsynced .restart]))
    ∧ (∀ held : Nat, 10000 ≤ held →
      (s.lines.restartActive = false → exec (.restartInput m held) s = .next
        (State.posting (restarted u) [.state s.ltk.loop .unsynced .restart]))
      ∧ (s.lines.restartActive = true → exec (.restartInput m held) s = .next (s.clock m)))
    ∧ ∀ held : Nat, 50 ≤ held → exec (.restartInputFall m held) s = .next
        { s.clock m with lines := { s.lines with restartActive := false } }

/-- R10, R19: RESYNC. Without a geometry record it is refused; in UNSYNCED it sets resync-pending; in a synchronised
state the loop goes UNSYNCED, every flight ends, every tray in flight is UNVERIFIED, the window closes and
resync-pending is set; from RUNNING every claim goes too, with reason LOOP_NOT_RUNNING, and every earmark. STATE of
cause RESYNC and an UNVERIFIED for each flight join the queues of the links that hear them and have room, the
UNVERIFIED also of PLANNER's (notes/assumptions/18.md). The reply stands before the notices. -/
def Obligations.ResyncUnsynchronisesTheLoop : Prop :=
  ∀ (m : Moment) (k : LinkId) (tag : Byte) (s : State), (s.link k).planner = true → s.hasRoom k →
    (s.pst.geometry = none → exec (.resync m k tag) s = .next
      ((s.heard m k).replied k 0x12 tag (refusal .wrongState)))
    ∧ ∀ g, s.pst.geometry = some g →
      (s.ltk.loop = .unsynced → exec (.resync m k tag) s = .next (State.replied
        { s.heard m k with ltk := { s.ltk with resyncPending := true } } k 0x12 tag
        (okReply (.resync .unsynced s.ltk.resyncRequired true))))
      ∧ (s.ltk.loop ≠ .unsynced → ∃ t, exec (.resync m k tag) s = .next t
        ∧ t.ltk = { s.ltk with loop := .unsynced, resyncPending := true, windowOpen := false }
        ∧ (∀ l, (t.lane l).inflight = [] ∧ (t.lane l).records = (s.lane l).records)
        ∧ (∀ l e y ld p d, e ∈ (s.lane l).inflight → y ∈ e.trays → s.tray y = .launched ld p d →
            t.tray y = .unverified d)
        ∧ (s.ltk.loop = .running →
            (∀ l x, (s.lane l).state.solution? = some x → (s.lane l).EndsWaiting (t.lane l).state ∧ s.tellsFault t l
              ∧ s.tells t (.claimReleased l .loopNotRunning (some x.tray) x.partner (t.lane l).state.name))
            ∧ (∀ l, (t.lane l).state.solution? = none) ∧ (∀ x, (t.tray x).earmark = none)
            ∧ ∀ l, (t.share l).outstanding = 0)
        ∧ (∀ l, (s.lane l).state.solution? = none → (t.lane l).state = (s.lane l).state)
        ∧ (s.link k).queue ++ [.reply 0x12 tag (okReply (.resync .unsynced s.ltk.resyncRequired true))]
            <+: (t.link k).queue
        ∧ s.tells t (.state s.ltk.loop .unsynced .resync)
        ∧ (∀ l e, e ∈ (s.lane l).inflight → s.tells t (.unverified e.tray e.partner .resync l e.ticket))
        ∧ t.csm = s.csm ∧ t.pst = s.pst ∧ t.lines = s.lines ∧ t.micros = m.reading)

/-! ### Lane requests -/

/-- R74, R97, R112, R113, R115: ARM, PAUSE, CLEAR and ANNOUNCE at a lane of the link's window: what each does in each
lane state, and what its reply says. A change that ends in FAULTED is told by LANE_FAULT, and a PAUSE that takes a claim
by CLAIM_RELEASED of reason PAUSED. (ARM of a PAUSED lane: with no overfill fault due and no pause pending.) -/
def Obligations.LaneRequestsActOnTheirLane : Prop :=
  ∀ (m : Moment) (k : LinkId) (tag : Byte) (l : LaneId) (s : State), s.hasRoom k → s.holdsLane k l →
    ((s.lane l).state ≠ .paused → exec (.arm m k tag (laneByte l)) s = .next
      ((s.heard m k).replied k 0x20 tag (okReply (.laneState (s.lane l).state.name))))
    ∧ ((s.lane l).state = .paused → (s.lane l).overfillDue = false → (s.lane l).pausePending = false →
      ∃ t, exec (.arm m k tag (laneByte l)) s = .next t
        ∧ (s.holdBlocked l = false → (t.lane l).state = .idle ∧ (t.lane l).records = (s.lane l).records)
        ∧ (s.holdBlocked l = true → ∀ p rest, ((s.lane l).records = .onBelt p :: rest
            ∨ (s.lane l).records = .atHold p :: rest) → (t.lane l).records = .atHold p :: rest
          ∧ (t.lane l).state = if p.disposition = .reject then .faulted .tooLong else .waiting)
        ∧ (s.holdBlocked l = true → ((s.lane l).records = [] ∨ ∃ a b rest, (s.lane l).records = .measuring a b :: rest) →
            (t.lane l).records = (s.lane l).records ∧ (t.lane l).state = .faulted .unmeasured)
        ∧ s.tellsFault t l ∧ (s.link k).queue ++ [.reply 0x20 tag (okReply (.laneState (t.lane l).state.name))] <+: (t.link k).queue
        ∧ (t.lane l).tickets = (s.lane l).tickets ∧ (t.lane l).inflight = (s.lane l).inflight
        ∧ OtherLanesKept l (s.clock m) t ∧ LoopKept (s.clock m) t ∧ MapKeptButEarmarks l s t)
    ∧ ((s.lane l).state = .absent →
      exec (.pause m k tag (laneByte l)) s = .next ((s.heard m k).replied k 0x21 tag (refusal .wrongState))
      ∧ ∀ ticket, exec (.announce m k tag (laneByte l) ticket) s = .next
        ((s.heard m k).replied k 0x23 tag (refusal .wrongState)))
    ∧ (((s.lane l).state = .paused ∨ ∃ r, (s.lane l).state = .faulted r) →
      exec (.pause m k tag (laneByte l)) s = .next
        ((s.heard m k).replied k 0x21 tag (okReply (.paused (s.lane l).state.name (s.lane l).pausePending))))
    ∧ (((∃ x, (s.lane l).state = .committed x) ∨ ∃ a b, (s.lane l).state = .releasing a b) →
      exec (.pause m k tag (laneByte l)) s = .next
        (((s.heard m k).modLane l (fun x => { x with pausePending := true })).replied k 0x21 tag
          (okReply (.paused (s.lane l).state.name true))))
    ∧ (((s.lane l).state = .idle ∨ (s.lane l).state = .waiting ∨ ∃ x, (s.lane l).state = .tracking x) →
      ∃ t, exec (.pause m k tag (laneByte l)) s = .next t ∧ (s.lane l).EndsPaused (t.lane l).state
        ∧ (t.lane l).records = (s.lane l).records ∧ (t.lane l).tickets = (s.lane l).tickets
        ∧ (t.lane l).inflight = (s.lane l).inflight
        ∧ (∀ x y h p d, (s.lane l).state = .tracking x → y ∈ x.trays → s.tray y = .reserved h p d →
            t.tray y = if d then .disabled else .free none)
        ∧ (∀ x, (s.lane l).state = .tracking x →
            s.tells t (.claimReleased l .paused (some x.tray) x.partner (t.lane l).state.name))
        ∧ s.tellsFault t l ∧ (∀ x, t.tray x ≠ .free (some l))
        ∧ (s.link k).queue ++ [.reply 0x21 tag (okReply (.paused (t.lane l).state.name (t.lane l).pausePending))]
            <+: (t.link k).queue
        ∧ OtherLanesKept l (s.clock m) t ∧ LoopKept (s.clock m) t)
    ∧ ((s.lane l).state.fault? = none → exec (.clear m k tag (laneByte l)) s = .next
      ((s.heard m k).replied k 0x22 tag (refusal .wrongState)))
    ∧ (∀ r, (s.lane l).state = .faulted r → ∃ t, exec (.clear m k tag (laneByte l)) s = .next t
        ∧ (s.lane l).EndsPaused (t.lane l).state
        ∧ (t.lane l).records = (if r = .tooLong then (s.lane l).records.tail else (s.lane l).records)
        ∧ (t.lane l).overfillPending = (if r = .overfill then false else (s.lane l).overfillPending)
        ∧ (t.lane l).tickets = (s.lane l).tickets ∧ (t.lane l).inflight = (s.lane l).inflight
        ∧ ((s.lane l).overfillDue = false → (t.lane l).copy = s.profile (s.lane l).profile)
        ∧ s.tellsFault t l ∧ (s.link k).queue ++ [.reply 0x22 tag (okReply (.laneState (t.lane l).state.name))] <+: (t.link k).queue
        ∧ OtherLanesKept l (s.clock m) t ∧ LoopKept (s.clock m) t ∧ MapKeptButEarmarks l s t)
    ∧ ((s.lane l).state ≠ .absent → ∀ ticket,
      (8 ≤ (s.lane l).tickets.length → exec (.announce m k tag (laneByte l) ticket) s = .next
        ((s.heard m k).replied k 0x23 tag (refusal .full (.tickets (s.lane l).tickets.length))))
      ∧ ((s.lane l).tickets.length < 8 → exec (.announce m k tag (laneByte l) ticket) s = .next
        (((s.heard m k).modLane l (fun x => { x with tickets := x.tickets ++ [ticket] })).replied k 0x23 tag
          (okReply (.tickets ((s.lane l).tickets.length + 1))))))
end

