-- ==== Sys2Proof/Laws/Bank.lean ====
section
/-! SUPPORT. Reading a bank after it is written: what a later proof cites in place of unfolding `Bank`. -/

namespace Sys2Proof

variable {n : Nat} {α β : Type}

theorem Bank.get_eq_getElem (b : Bank n α) (i : Fin n) : b.get i = b.cells[i.val] := rfl

@[simp] theorem Bank.get_set_self (b : Bank n α) (i : Fin n) (a : α) : (b.set i a).get i = a := by
  simp [Bank.get_eq_getElem, Bank.set]

theorem Bank.get_set_ne (b : Bank n α) {i j : Fin n} (h : j ≠ i) (a : α) : (b.set i a).get j = b.get j := by
  have h' : i.val ≠ j.val := fun e => h (Fin.ext e.symm)
  simp [Bank.get_eq_getElem, Bank.set, h']

theorem Bank.get_set (b : Bank n α) (i j : Fin n) (a : α) :
    (b.set i a).get j = if j = i then a else b.get j := by
  by_cases h : j = i
  · subst h; simp
  · simp [h, Bank.get_set_ne b h]

@[simp] theorem Bank.get_map (f : α → β) (b : Bank n α) (i : Fin n) : (b.map f).get i = f (b.get i) := by
  simp [Bank.get_eq_getElem, Bank.map, Vector.getElem_mk]

@[simp] theorem Bank.get_fill (a : α) (i : Fin n) : (Bank.fill n a).get i = a := by
  simp [Bank.get_eq_getElem, Bank.fill]

/-- Two banks that hold the same thing at every number are the same bank. -/
theorem Bank.ext_get {b b' : Bank n α} (h : ∀ i, b.get i = b'.get i) : b = b' := by
  cases b with | mk v => cases b' with | mk w =>
  congr 1
  apply Vector.ext
  intro i hi
  exact h ⟨i, hi⟩

@[simp] theorem Bank.set_get_self (b : Bank n α) (i : Fin n) : b.set i (b.get i) = b := by
  apply Bank.ext_get
  intro j
  by_cases h : j = i
  · subst h; simp
  · simp [Bank.get_set_ne b h]

@[simp] theorem Bank.set_set (b : Bank n α) (i : Fin n) (a a' : α) : (b.set i a).set i a' = b.set i a' := by
  apply Bank.ext_get
  intro j
  by_cases h : j = i
  · subst h; simp
  · simp [Bank.get_set_ne _ h]

theorem Bank.set_comm (b : Bank n α) {i j : Fin n} (h : i ≠ j) (a a' : α) :
    (b.set i a).set j a' = (b.set j a').set i a := by
  apply Bank.ext_get
  intro k
  simp only [Bank.get_set]
  split <;> split <;> simp_all

@[simp] theorem Bank.map_map {γ : Type} (f : α → β) (g : β → γ) (b : Bank n α) :
    (b.map f).map g = b.map (fun a => g (f a)) := by
  apply Bank.ext_get; intro i; simp

theorem Bank.map_set (f : α → β) (b : Bank n α) (i : Fin n) (a : α) :
    (b.set i a).map f = (b.map f).set i (f a) := by
  apply Bank.ext_get; intro j; simp only [Bank.get_map, Bank.get_set]; split <;> rfl

theorem Bank.map_congr {f g : α → β} {b : Bank n α} (h : ∀ i, f (b.get i) = g (b.get i)) : b.map f = b.map g := by
  apply Bank.ext_get; intro i; simpa using h i

@[simp] theorem Bank.map_id (b : Bank n α) : b.map (fun a => a) = b := by
  apply Bank.ext_get; intro i; simp

theorem mem_allLanes (l : LaneId) : l ∈ allLanes := by revert l; decide

theorem mem_allLinks (k : LinkId) : k ∈ allLinks := by revert k; decide

theorem allLanes_nodup : allLanes.Nodup := by decide

end Sys2Proof
end

