-- ==== Sys2Proof/Laws/State.lean ====
section
/-! SUPPORT. One lemma per field per update of the state, so that no later proof unfolds a record update. -/

namespace Sys2Proof.Machine

/-! ### What an update leaves -/

/-! #### `State.setLane` -/

@[simp] theorem State.setLane_ltk (s : State) (l : LaneId) (ln : Lane) : (s.setLane l ln).ltk = s.ltk := rfl
@[simp] theorem State.setLane_tmap (s : State) (l : LaneId) (ln : Lane) : (s.setLane l ln).tmap = s.tmap := rfl
@[simp] theorem State.setLane_csm (s : State) (l : LaneId) (ln : Lane) : (s.setLane l ln).csm = s.csm := rfl
@[simp] theorem State.setLane_eal (s : State) (l : LaneId) (ln : Lane) : (s.setLane l ln).eal = s.eal := rfl
@[simp] theorem State.setLane_pace (s : State) (l : LaneId) (ln : Lane) : (s.setLane l ln).pace = s.pace := rfl
@[simp] theorem State.setLane_pst (s : State) (l : LaneId) (ln : Lane) : (s.setLane l ln).pst = s.pst := rfl
@[simp] theorem State.setLane_links (s : State) (l : LaneId) (ln : Lane) : (s.setLane l ln).links = s.links := rfl
@[simp] theorem State.setLane_lines (s : State) (l : LaneId) (ln : Lane) : (s.setLane l ln).lines = s.lines := rfl
@[simp] theorem State.setLane_micros (s : State) (l : LaneId) (ln : Lane) : (s.setLane l ln).micros = s.micros := rfl
@[simp] theorem State.setLane_pending (s : State) (l : LaneId) (ln : Lane) : (s.setLane l ln).pending = s.pending := rfl
@[simp] theorem State.setLane_paceOf (s : State) (l : LaneId) (ln : Lane) (i : LaneId) : (s.setLane l ln).paceOf i = s.paceOf i := rfl
@[simp] theorem State.setLane_share (s : State) (l : LaneId) (ln : Lane) (i : LaneId) : (s.setLane l ln).share i = s.share i := rfl
@[simp] theorem State.setLane_link (s : State) (l : LaneId) (ln : Lane) (j : LinkId) : (s.setLane l ln).link j = s.link j := rfl
@[simp] theorem State.setLane_tray (s : State) (l : LaneId) (ln : Lane) (x : Nat) : (s.setLane l ln).tray x = s.tray x := rfl
@[simp] theorem State.setLane_profile (s : State) (l : LaneId) (ln : Lane) (i : ProfileId) : (s.setLane l ln).profile i = s.profile i := rfl
@[simp] theorem State.setLane_holdBlocked (s : State) (l : LaneId) (ln : Lane) (i : LaneId) : (s.setLane l ln).holdBlocked i = s.holdBlocked i := rfl

/-! #### `State.modLane` -/

@[simp] theorem State.modLane_ltk (s : State) (l : LaneId) (f : Lane → Lane) : (s.modLane l f).ltk = s.ltk := rfl
@[simp] theorem State.modLane_tmap (s : State) (l : LaneId) (f : Lane → Lane) : (s.modLane l f).tmap = s.tmap := rfl
@[simp] theorem State.modLane_csm (s : State) (l : LaneId) (f : Lane → Lane) : (s.modLane l f).csm = s.csm := rfl
@[simp] theorem State.modLane_eal (s : State) (l : LaneId) (f : Lane → Lane) : (s.modLane l f).eal = s.eal := rfl
@[simp] theorem State.modLane_pace (s : State) (l : LaneId) (f : Lane → Lane) : (s.modLane l f).pace = s.pace := rfl
@[simp] theorem State.modLane_pst (s : State) (l : LaneId) (f : Lane → Lane) : (s.modLane l f).pst = s.pst := rfl
@[simp] theorem State.modLane_links (s : State) (l : LaneId) (f : Lane → Lane) : (s.modLane l f).links = s.links := rfl
@[simp] theorem State.modLane_lines (s : State) (l : LaneId) (f : Lane → Lane) : (s.modLane l f).lines = s.lines := rfl
@[simp] theorem State.modLane_micros (s : State) (l : LaneId) (f : Lane → Lane) : (s.modLane l f).micros = s.micros := rfl
@[simp] theorem State.modLane_pending (s : State) (l : LaneId) (f : Lane → Lane) : (s.modLane l f).pending = s.pending := rfl
@[simp] theorem State.modLane_paceOf (s : State) (l : LaneId) (f : Lane → Lane) (i : LaneId) : (s.modLane l f).paceOf i = s.paceOf i := rfl
@[simp] theorem State.modLane_share (s : State) (l : LaneId) (f : Lane → Lane) (i : LaneId) : (s.modLane l f).share i = s.share i := rfl
@[simp] theorem State.modLane_link (s : State) (l : LaneId) (f : Lane → Lane) (j : LinkId) : (s.modLane l f).link j = s.link j := rfl
@[simp] theorem State.modLane_tray (s : State) (l : LaneId) (f : Lane → Lane) (x : Nat) : (s.modLane l f).tray x = s.tray x := rfl
@[simp] theorem State.modLane_profile (s : State) (l : LaneId) (f : Lane → Lane) (i : ProfileId) : (s.modLane l f).profile i = s.profile i := rfl
@[simp] theorem State.modLane_holdBlocked (s : State) (l : LaneId) (f : Lane → Lane) (i : LaneId) : (s.modLane l f).holdBlocked i = s.holdBlocked i := rfl

/-! #### `State.modPace` -/

@[simp] theorem State.modPace_ltk (s : State) (l : LaneId) (f : Pace → Pace) : (s.modPace l f).ltk = s.ltk := rfl
@[simp] theorem State.modPace_tmap (s : State) (l : LaneId) (f : Pace → Pace) : (s.modPace l f).tmap = s.tmap := rfl
@[simp] theorem State.modPace_csm (s : State) (l : LaneId) (f : Pace → Pace) : (s.modPace l f).csm = s.csm := rfl
@[simp] theorem State.modPace_eal (s : State) (l : LaneId) (f : Pace → Pace) : (s.modPace l f).eal = s.eal := rfl
@[simp] theorem State.modPace_lanes (s : State) (l : LaneId) (f : Pace → Pace) : (s.modPace l f).lanes = s.lanes := rfl
@[simp] theorem State.modPace_pst (s : State) (l : LaneId) (f : Pace → Pace) : (s.modPace l f).pst = s.pst := rfl
@[simp] theorem State.modPace_links (s : State) (l : LaneId) (f : Pace → Pace) : (s.modPace l f).links = s.links := rfl
@[simp] theorem State.modPace_lines (s : State) (l : LaneId) (f : Pace → Pace) : (s.modPace l f).lines = s.lines := rfl
@[simp] theorem State.modPace_micros (s : State) (l : LaneId) (f : Pace → Pace) : (s.modPace l f).micros = s.micros := rfl
@[simp] theorem State.modPace_pending (s : State) (l : LaneId) (f : Pace → Pace) : (s.modPace l f).pending = s.pending := rfl
@[simp] theorem State.modPace_lane (s : State) (l : LaneId) (f : Pace → Pace) (i : LaneId) : (s.modPace l f).lane i = s.lane i := rfl
@[simp] theorem State.modPace_share (s : State) (l : LaneId) (f : Pace → Pace) (i : LaneId) : (s.modPace l f).share i = s.share i := rfl
@[simp] theorem State.modPace_link (s : State) (l : LaneId) (f : Pace → Pace) (j : LinkId) : (s.modPace l f).link j = s.link j := rfl
@[simp] theorem State.modPace_tray (s : State) (l : LaneId) (f : Pace → Pace) (x : Nat) : (s.modPace l f).tray x = s.tray x := rfl
@[simp] theorem State.modPace_profile (s : State) (l : LaneId) (f : Pace → Pace) (i : ProfileId) : (s.modPace l f).profile i = s.profile i := rfl
@[simp] theorem State.modPace_holdBlocked (s : State) (l : LaneId) (f : Pace → Pace) (i : LaneId) : (s.modPace l f).holdBlocked i = s.holdBlocked i := rfl

/-! #### `State.modShare` -/

@[simp] theorem State.modShare_ltk (s : State) (l : LaneId) (f : Share → Share) : (s.modShare l f).ltk = s.ltk := rfl
@[simp] theorem State.modShare_tmap (s : State) (l : LaneId) (f : Share → Share) : (s.modShare l f).tmap = s.tmap := rfl
@[simp] theorem State.modShare_csm (s : State) (l : LaneId) (f : Share → Share) : (s.modShare l f).csm = s.csm := rfl
@[simp] theorem State.modShare_lanes (s : State) (l : LaneId) (f : Share → Share) : (s.modShare l f).lanes = s.lanes := rfl
@[simp] theorem State.modShare_pace (s : State) (l : LaneId) (f : Share → Share) : (s.modShare l f).pace = s.pace := rfl
@[simp] theorem State.modShare_pst (s : State) (l : LaneId) (f : Share → Share) : (s.modShare l f).pst = s.pst := rfl
@[simp] theorem State.modShare_links (s : State) (l : LaneId) (f : Share → Share) : (s.modShare l f).links = s.links := rfl
@[simp] theorem State.modShare_lines (s : State) (l : LaneId) (f : Share → Share) : (s.modShare l f).lines = s.lines := rfl
@[simp] theorem State.modShare_micros (s : State) (l : LaneId) (f : Share → Share) : (s.modShare l f).micros = s.micros := rfl
@[simp] theorem State.modShare_pending (s : State) (l : LaneId) (f : Share → Share) : (s.modShare l f).pending = s.pending := rfl
@[simp] theorem State.modShare_lane (s : State) (l : LaneId) (f : Share → Share) (i : LaneId) : (s.modShare l f).lane i = s.lane i := rfl
@[simp] theorem State.modShare_paceOf (s : State) (l : LaneId) (f : Share → Share) (i : LaneId) : (s.modShare l f).paceOf i = s.paceOf i := rfl
@[simp] theorem State.modShare_link (s : State) (l : LaneId) (f : Share → Share) (j : LinkId) : (s.modShare l f).link j = s.link j := rfl
@[simp] theorem State.modShare_tray (s : State) (l : LaneId) (f : Share → Share) (x : Nat) : (s.modShare l f).tray x = s.tray x := rfl
@[simp] theorem State.modShare_profile (s : State) (l : LaneId) (f : Share → Share) (i : ProfileId) : (s.modShare l f).profile i = s.profile i := rfl
@[simp] theorem State.modShare_holdBlocked (s : State) (l : LaneId) (f : Share → Share) (i : LaneId) : (s.modShare l f).holdBlocked i = s.holdBlocked i := rfl

/-! #### `State.modLink` -/

@[simp] theorem State.modLink_ltk (s : State) (k : LinkId) (f : Link → Link) : (s.modLink k f).ltk = s.ltk := rfl
@[simp] theorem State.modLink_tmap (s : State) (k : LinkId) (f : Link → Link) : (s.modLink k f).tmap = s.tmap := rfl
@[simp] theorem State.modLink_csm (s : State) (k : LinkId) (f : Link → Link) : (s.modLink k f).csm = s.csm := rfl
@[simp] theorem State.modLink_eal (s : State) (k : LinkId) (f : Link → Link) : (s.modLink k f).eal = s.eal := rfl
@[simp] theorem State.modLink_lanes (s : State) (k : LinkId) (f : Link → Link) : (s.modLink k f).lanes = s.lanes := rfl
@[simp] theorem State.modLink_pace (s : State) (k : LinkId) (f : Link → Link) : (s.modLink k f).pace = s.pace := rfl
@[simp] theorem State.modLink_pst (s : State) (k : LinkId) (f : Link → Link) : (s.modLink k f).pst = s.pst := rfl
@[simp] theorem State.modLink_lines (s : State) (k : LinkId) (f : Link → Link) : (s.modLink k f).lines = s.lines := rfl
@[simp] theorem State.modLink_micros (s : State) (k : LinkId) (f : Link → Link) : (s.modLink k f).micros = s.micros := rfl
@[simp] theorem State.modLink_pending (s : State) (k : LinkId) (f : Link → Link) : (s.modLink k f).pending = s.pending := rfl
@[simp] theorem State.modLink_lane (s : State) (k : LinkId) (f : Link → Link) (i : LaneId) : (s.modLink k f).lane i = s.lane i := rfl
@[simp] theorem State.modLink_paceOf (s : State) (k : LinkId) (f : Link → Link) (i : LaneId) : (s.modLink k f).paceOf i = s.paceOf i := rfl
@[simp] theorem State.modLink_share (s : State) (k : LinkId) (f : Link → Link) (i : LaneId) : (s.modLink k f).share i = s.share i := rfl
@[simp] theorem State.modLink_tray (s : State) (k : LinkId) (f : Link → Link) (x : Nat) : (s.modLink k f).tray x = s.tray x := rfl
@[simp] theorem State.modLink_profile (s : State) (k : LinkId) (f : Link → Link) (i : ProfileId) : (s.modLink k f).profile i = s.profile i := rfl
@[simp] theorem State.modLink_holdBlocked (s : State) (k : LinkId) (f : Link → Link) (i : LaneId) : (s.modLink k f).holdBlocked i = s.holdBlocked i := rfl

/-! #### `State.modLtk` -/

@[simp] theorem State.modLtk_tmap (s : State) (f : Ltk → Ltk) : (s.modLtk f).tmap = s.tmap := rfl
@[simp] theorem State.modLtk_csm (s : State) (f : Ltk → Ltk) : (s.modLtk f).csm = s.csm := rfl
@[simp] theorem State.modLtk_eal (s : State) (f : Ltk → Ltk) : (s.modLtk f).eal = s.eal := rfl
@[simp] theorem State.modLtk_lanes (s : State) (f : Ltk → Ltk) : (s.modLtk f).lanes = s.lanes := rfl
@[simp] theorem State.modLtk_pace (s : State) (f : Ltk → Ltk) : (s.modLtk f).pace = s.pace := rfl
@[simp] theorem State.modLtk_pst (s : State) (f : Ltk → Ltk) : (s.modLtk f).pst = s.pst := rfl
@[simp] theorem State.modLtk_links (s : State) (f : Ltk → Ltk) : (s.modLtk f).links = s.links := rfl
@[simp] theorem State.modLtk_lines (s : State) (f : Ltk → Ltk) : (s.modLtk f).lines = s.lines := rfl
@[simp] theorem State.modLtk_micros (s : State) (f : Ltk → Ltk) : (s.modLtk f).micros = s.micros := rfl
@[simp] theorem State.modLtk_pending (s : State) (f : Ltk → Ltk) : (s.modLtk f).pending = s.pending := rfl
@[simp] theorem State.modLtk_lane (s : State) (f : Ltk → Ltk) (i : LaneId) : (s.modLtk f).lane i = s.lane i := rfl
@[simp] theorem State.modLtk_paceOf (s : State) (f : Ltk → Ltk) (i : LaneId) : (s.modLtk f).paceOf i = s.paceOf i := rfl
@[simp] theorem State.modLtk_share (s : State) (f : Ltk → Ltk) (i : LaneId) : (s.modLtk f).share i = s.share i := rfl
@[simp] theorem State.modLtk_link (s : State) (f : Ltk → Ltk) (j : LinkId) : (s.modLtk f).link j = s.link j := rfl
@[simp] theorem State.modLtk_tray (s : State) (f : Ltk → Ltk) (x : Nat) : (s.modLtk f).tray x = s.tray x := rfl
@[simp] theorem State.modLtk_profile (s : State) (f : Ltk → Ltk) (i : ProfileId) : (s.modLtk f).profile i = s.profile i := rfl
@[simp] theorem State.modLtk_holdBlocked (s : State) (f : Ltk → Ltk) (i : LaneId) : (s.modLtk f).holdBlocked i = s.holdBlocked i := rfl

/-! #### `State.clock` -/

@[simp] theorem State.clock_ltk (s : State) (m : Moment) : (s.clock m).ltk = s.ltk := rfl
@[simp] theorem State.clock_tmap (s : State) (m : Moment) : (s.clock m).tmap = s.tmap := rfl
@[simp] theorem State.clock_csm (s : State) (m : Moment) : (s.clock m).csm = s.csm := rfl
@[simp] theorem State.clock_eal (s : State) (m : Moment) : (s.clock m).eal = s.eal := rfl
@[simp] theorem State.clock_pace (s : State) (m : Moment) : (s.clock m).pace = s.pace := rfl
@[simp] theorem State.clock_pst (s : State) (m : Moment) : (s.clock m).pst = s.pst := rfl
@[simp] theorem State.clock_links (s : State) (m : Moment) : (s.clock m).links = s.links := rfl
@[simp] theorem State.clock_lines (s : State) (m : Moment) : (s.clock m).lines = s.lines := rfl
@[simp] theorem State.clock_pending (s : State) (m : Moment) : (s.clock m).pending = s.pending := rfl
@[simp] theorem State.clock_paceOf (s : State) (m : Moment) (i : LaneId) : (s.clock m).paceOf i = s.paceOf i := rfl
@[simp] theorem State.clock_share (s : State) (m : Moment) (i : LaneId) : (s.clock m).share i = s.share i := rfl
@[simp] theorem State.clock_link (s : State) (m : Moment) (j : LinkId) : (s.clock m).link j = s.link j := rfl
@[simp] theorem State.clock_tray (s : State) (m : Moment) (x : Nat) : (s.clock m).tray x = s.tray x := rfl
@[simp] theorem State.clock_profile (s : State) (m : Moment) (i : ProfileId) : (s.clock m).profile i = s.profile i := rfl
@[simp] theorem State.clock_holdBlocked (s : State) (m : Moment) (i : LaneId) : (s.clock m).holdBlocked i = s.holdBlocked i := rfl

/-! #### `State.lowerOutstanding` -/

@[simp] theorem State.lowerOutstanding_ltk (s : State) (o : Option LaneId) : (s.lowerOutstanding o).ltk = s.ltk := by cases o <;> rfl
@[simp] theorem State.lowerOutstanding_tmap (s : State) (o : Option LaneId) : (s.lowerOutstanding o).tmap = s.tmap := by cases o <;> rfl
@[simp] theorem State.lowerOutstanding_csm (s : State) (o : Option LaneId) : (s.lowerOutstanding o).csm = s.csm := by cases o <;> rfl
@[simp] theorem State.lowerOutstanding_lanes (s : State) (o : Option LaneId) : (s.lowerOutstanding o).lanes = s.lanes := by cases o <;> rfl
@[simp] theorem State.lowerOutstanding_pace (s : State) (o : Option LaneId) : (s.lowerOutstanding o).pace = s.pace := by cases o <;> rfl
@[simp] theorem State.lowerOutstanding_pst (s : State) (o : Option LaneId) : (s.lowerOutstanding o).pst = s.pst := by cases o <;> rfl
@[simp] theorem State.lowerOutstanding_links (s : State) (o : Option LaneId) : (s.lowerOutstanding o).links = s.links := by cases o <;> rfl
@[simp] theorem State.lowerOutstanding_lines (s : State) (o : Option LaneId) : (s.lowerOutstanding o).lines = s.lines := by cases o <;> rfl
@[simp] theorem State.lowerOutstanding_micros (s : State) (o : Option LaneId) : (s.lowerOutstanding o).micros = s.micros := by cases o <;> rfl
@[simp] theorem State.lowerOutstanding_pending (s : State) (o : Option LaneId) : (s.lowerOutstanding o).pending = s.pending := by cases o <;> rfl
@[simp] theorem State.lowerOutstanding_lane (s : State) (o : Option LaneId) (i : LaneId) : (s.lowerOutstanding o).lane i = s.lane i := by cases o <;> rfl
@[simp] theorem State.lowerOutstanding_paceOf (s : State) (o : Option LaneId) (i : LaneId) : (s.lowerOutstanding o).paceOf i = s.paceOf i := by cases o <;> rfl
@[simp] theorem State.lowerOutstanding_link (s : State) (o : Option LaneId) (j : LinkId) : (s.lowerOutstanding o).link j = s.link j := by cases o <;> rfl
@[simp] theorem State.lowerOutstanding_tray (s : State) (o : Option LaneId) (x : Nat) : (s.lowerOutstanding o).tray x = s.tray x := by cases o <;> rfl
@[simp] theorem State.lowerOutstanding_profile (s : State) (o : Option LaneId) (i : ProfileId) : (s.lowerOutstanding o).profile i = s.profile i := by cases o <;> rfl
@[simp] theorem State.lowerOutstanding_holdBlocked (s : State) (o : Option LaneId) (i : LaneId) : (s.lowerOutstanding o).holdBlocked i = s.holdBlocked i := by cases o <;> rfl

/-! #### `State.raiseOutstanding` -/

@[simp] theorem State.raiseOutstanding_ltk (s : State) (o : Option LaneId) : (s.raiseOutstanding o).ltk = s.ltk := by cases o <;> rfl
@[simp] theorem State.raiseOutstanding_tmap (s : State) (o : Option LaneId) : (s.raiseOutstanding o).tmap = s.tmap := by cases o <;> rfl
@[simp] theorem State.raiseOutstanding_csm (s : State) (o : Option LaneId) : (s.raiseOutstanding o).csm = s.csm := by cases o <;> rfl
@[simp] theorem State.raiseOutstanding_lanes (s : State) (o : Option LaneId) : (s.raiseOutstanding o).lanes = s.lanes := by cases o <;> rfl
@[simp] theorem State.raiseOutstanding_pace (s : State) (o : Option LaneId) : (s.raiseOutstanding o).pace = s.pace := by cases o <;> rfl
@[simp] theorem State.raiseOutstanding_pst (s : State) (o : Option LaneId) : (s.raiseOutstanding o).pst = s.pst := by cases o <;> rfl
@[simp] theorem State.raiseOutstanding_links (s : State) (o : Option LaneId) : (s.raiseOutstanding o).links = s.links := by cases o <;> rfl
@[simp] theorem State.raiseOutstanding_lines (s : State) (o : Option LaneId) : (s.raiseOutstanding o).lines = s.lines := by cases o <;> rfl
@[simp] theorem State.raiseOutstanding_micros (s : State) (o : Option LaneId) : (s.raiseOutstanding o).micros = s.micros := by cases o <;> rfl
@[simp] theorem State.raiseOutstanding_pending (s : State) (o : Option LaneId) : (s.raiseOutstanding o).pending = s.pending := by cases o <;> rfl
@[simp] theorem State.raiseOutstanding_lane (s : State) (o : Option LaneId) (i : LaneId) : (s.raiseOutstanding o).lane i = s.lane i := by cases o <;> rfl
@[simp] theorem State.raiseOutstanding_paceOf (s : State) (o : Option LaneId) (i : LaneId) : (s.raiseOutstanding o).paceOf i = s.paceOf i := by cases o <;> rfl
@[simp] theorem State.raiseOutstanding_link (s : State) (o : Option LaneId) (j : LinkId) : (s.raiseOutstanding o).link j = s.link j := by cases o <;> rfl
@[simp] theorem State.raiseOutstanding_tray (s : State) (o : Option LaneId) (x : Nat) : (s.raiseOutstanding o).tray x = s.tray x := by cases o <;> rfl
@[simp] theorem State.raiseOutstanding_profile (s : State) (o : Option LaneId) (i : ProfileId) : (s.raiseOutstanding o).profile i = s.profile i := by cases o <;> rfl
@[simp] theorem State.raiseOutstanding_holdBlocked (s : State) (o : Option LaneId) (i : LaneId) : (s.raiseOutstanding o).holdBlocked i = s.holdBlocked i := by cases o <;> rfl

/-! #### `State.putTray` -/

@[simp] theorem State.putTray_ltk (s : State) (t : Nat) (e : Tray) : (s.putTray t e).ltk = s.ltk := by simp [State.putTray]
@[simp] theorem State.putTray_csm (s : State) (t : Nat) (e : Tray) : (s.putTray t e).csm = s.csm := by simp [State.putTray]
@[simp] theorem State.putTray_lanes (s : State) (t : Nat) (e : Tray) : (s.putTray t e).lanes = s.lanes := by simp [State.putTray]
@[simp] theorem State.putTray_pace (s : State) (t : Nat) (e : Tray) : (s.putTray t e).pace = s.pace := by simp [State.putTray]
@[simp] theorem State.putTray_pst (s : State) (t : Nat) (e : Tray) : (s.putTray t e).pst = s.pst := by simp [State.putTray]
@[simp] theorem State.putTray_links (s : State) (t : Nat) (e : Tray) : (s.putTray t e).links = s.links := by simp [State.putTray]
@[simp] theorem State.putTray_lines (s : State) (t : Nat) (e : Tray) : (s.putTray t e).lines = s.lines := by simp [State.putTray]
@[simp] theorem State.putTray_micros (s : State) (t : Nat) (e : Tray) : (s.putTray t e).micros = s.micros := by simp [State.putTray]
@[simp] theorem State.putTray_pending (s : State) (t : Nat) (e : Tray) : (s.putTray t e).pending = s.pending := by simp [State.putTray]
@[simp] theorem State.putTray_lane (s : State) (t : Nat) (e : Tray) (i : LaneId) : (s.putTray t e).lane i = s.lane i := by simp [State.lane]
@[simp] theorem State.putTray_paceOf (s : State) (t : Nat) (e : Tray) (i : LaneId) : (s.putTray t e).paceOf i = s.paceOf i := by simp [State.paceOf]
@[simp] theorem State.putTray_link (s : State) (t : Nat) (e : Tray) (j : LinkId) : (s.putTray t e).link j = s.link j := by simp [State.link]
@[simp] theorem State.putTray_profile (s : State) (t : Nat) (e : Tray) (i : ProfileId) : (s.putTray t e).profile i = s.profile i := by simp [State.profile]
@[simp] theorem State.putTray_holdBlocked (s : State) (t : Nat) (e : Tray) (i : LaneId) : (s.putTray t e).holdBlocked i = s.holdBlocked i := by simp [State.holdBlocked]

/-! #### `State.clearEarmarks` -/

@[simp] theorem State.clearEarmarks_ltk (s : State) : (s.clearEarmarks).ltk = s.ltk := rfl
@[simp] theorem State.clearEarmarks_csm (s : State) : (s.clearEarmarks).csm = s.csm := rfl
@[simp] theorem State.clearEarmarks_lanes (s : State) : (s.clearEarmarks).lanes = s.lanes := rfl
@[simp] theorem State.clearEarmarks_pace (s : State) : (s.clearEarmarks).pace = s.pace := rfl
@[simp] theorem State.clearEarmarks_pst (s : State) : (s.clearEarmarks).pst = s.pst := rfl
@[simp] theorem State.clearEarmarks_links (s : State) : (s.clearEarmarks).links = s.links := rfl
@[simp] theorem State.clearEarmarks_lines (s : State) : (s.clearEarmarks).lines = s.lines := rfl
@[simp] theorem State.clearEarmarks_micros (s : State) : (s.clearEarmarks).micros = s.micros := rfl
@[simp] theorem State.clearEarmarks_pending (s : State) : (s.clearEarmarks).pending = s.pending := rfl
@[simp] theorem State.clearEarmarks_lane (s : State) (i : LaneId) : (s.clearEarmarks).lane i = s.lane i := rfl
@[simp] theorem State.clearEarmarks_paceOf (s : State) (i : LaneId) : (s.clearEarmarks).paceOf i = s.paceOf i := rfl
@[simp] theorem State.clearEarmarks_link (s : State) (j : LinkId) : (s.clearEarmarks).link j = s.link j := rfl
@[simp] theorem State.clearEarmarks_profile (s : State) (i : ProfileId) : (s.clearEarmarks).profile i = s.profile i := rfl
@[simp] theorem State.clearEarmarks_holdBlocked (s : State) (i : LaneId) : (s.clearEarmarks).holdBlocked i = s.holdBlocked i := rfl

/-! #### `State.dropEarmarks` -/

@[simp] theorem State.dropEarmarks_ltk (s : State) (l : LaneId) : (s.dropEarmarks l).ltk = s.ltk := rfl
@[simp] theorem State.dropEarmarks_csm (s : State) (l : LaneId) : (s.dropEarmarks l).csm = s.csm := rfl
@[simp] theorem State.dropEarmarks_lanes (s : State) (l : LaneId) : (s.dropEarmarks l).lanes = s.lanes := rfl
@[simp] theorem State.dropEarmarks_pace (s : State) (l : LaneId) : (s.dropEarmarks l).pace = s.pace := rfl
@[simp] theorem State.dropEarmarks_pst (s : State) (l : LaneId) : (s.dropEarmarks l).pst = s.pst := rfl
@[simp] theorem State.dropEarmarks_links (s : State) (l : LaneId) : (s.dropEarmarks l).links = s.links := rfl
@[simp] theorem State.dropEarmarks_lines (s : State) (l : LaneId) : (s.dropEarmarks l).lines = s.lines := rfl
@[simp] theorem State.dropEarmarks_micros (s : State) (l : LaneId) : (s.dropEarmarks l).micros = s.micros := rfl
@[simp] theorem State.dropEarmarks_pending (s : State) (l : LaneId) : (s.dropEarmarks l).pending = s.pending := rfl
@[simp] theorem State.dropEarmarks_lane (s : State) (l : LaneId) (i : LaneId) : (s.dropEarmarks l).lane i = s.lane i := rfl
@[simp] theorem State.dropEarmarks_paceOf (s : State) (l : LaneId) (i : LaneId) : (s.dropEarmarks l).paceOf i = s.paceOf i := rfl
@[simp] theorem State.dropEarmarks_link (s : State) (l : LaneId) (j : LinkId) : (s.dropEarmarks l).link j = s.link j := rfl
@[simp] theorem State.dropEarmarks_profile (s : State) (l : LaneId) (i : ProfileId) : (s.dropEarmarks l).profile i = s.profile i := rfl
@[simp] theorem State.dropEarmarks_holdBlocked (s : State) (l : LaneId) (i : LaneId) : (s.dropEarmarks l).holdBlocked i = s.holdBlocked i := rfl

/-! #### `State.lapseEarmarks` -/

@[simp] theorem State.lapseEarmarks_ltk (s : State) (n : Nat) (l : LaneId) (c : Nat) : (s.lapseEarmarks n l c).ltk = s.ltk := rfl
@[simp] theorem State.lapseEarmarks_csm (s : State) (n : Nat) (l : LaneId) (c : Nat) : (s.lapseEarmarks n l c).csm = s.csm := rfl
@[simp] theorem State.lapseEarmarks_lanes (s : State) (n : Nat) (l : LaneId) (c : Nat) : (s.lapseEarmarks n l c).lanes = s.lanes := rfl
@[simp] theorem State.lapseEarmarks_pace (s : State) (n : Nat) (l : LaneId) (c : Nat) : (s.lapseEarmarks n l c).pace = s.pace := rfl
@[simp] theorem State.lapseEarmarks_pst (s : State) (n : Nat) (l : LaneId) (c : Nat) : (s.lapseEarmarks n l c).pst = s.pst := rfl
@[simp] theorem State.lapseEarmarks_links (s : State) (n : Nat) (l : LaneId) (c : Nat) : (s.lapseEarmarks n l c).links = s.links := rfl
@[simp] theorem State.lapseEarmarks_lines (s : State) (n : Nat) (l : LaneId) (c : Nat) : (s.lapseEarmarks n l c).lines = s.lines := rfl
@[simp] theorem State.lapseEarmarks_micros (s : State) (n : Nat) (l : LaneId) (c : Nat) : (s.lapseEarmarks n l c).micros = s.micros := rfl
@[simp] theorem State.lapseEarmarks_pending (s : State) (n : Nat) (l : LaneId) (c : Nat) : (s.lapseEarmarks n l c).pending = s.pending := rfl
@[simp] theorem State.lapseEarmarks_lane (s : State) (n : Nat) (l : LaneId) (c : Nat) (i : LaneId) : (s.lapseEarmarks n l c).lane i = s.lane i := rfl
@[simp] theorem State.lapseEarmarks_paceOf (s : State) (n : Nat) (l : LaneId) (c : Nat) (i : LaneId) : (s.lapseEarmarks n l c).paceOf i = s.paceOf i := rfl
@[simp] theorem State.lapseEarmarks_link (s : State) (n : Nat) (l : LaneId) (c : Nat) (j : LinkId) : (s.lapseEarmarks n l c).link j = s.link j := rfl
@[simp] theorem State.lapseEarmarks_profile (s : State) (n : Nat) (l : LaneId) (c : Nat) (i : ProfileId) : (s.lapseEarmarks n l c).profile i = s.profile i := rfl
@[simp] theorem State.lapseEarmarks_holdBlocked (s : State) (n : Nat) (l : LaneId) (c : Nat) (i : LaneId) : (s.lapseEarmarks n l c).holdBlocked i = s.holdBlocked i := rfl

/-! #### `State.post` -/

@[simp] theorem State.post_ltk (s : State) (n : Notice) : (s.post n).ltk = s.ltk := rfl
@[simp] theorem State.post_tmap (s : State) (n : Notice) : (s.post n).tmap = s.tmap := rfl
@[simp] theorem State.post_csm (s : State) (n : Notice) : (s.post n).csm = s.csm := rfl
@[simp] theorem State.post_eal (s : State) (n : Notice) : (s.post n).eal = s.eal := rfl
@[simp] theorem State.post_lanes (s : State) (n : Notice) : (s.post n).lanes = s.lanes := rfl
@[simp] theorem State.post_pace (s : State) (n : Notice) : (s.post n).pace = s.pace := rfl
@[simp] theorem State.post_pst (s : State) (n : Notice) : (s.post n).pst = s.pst := rfl
@[simp] theorem State.post_lines (s : State) (n : Notice) : (s.post n).lines = s.lines := rfl
@[simp] theorem State.post_micros (s : State) (n : Notice) : (s.post n).micros = s.micros := rfl
@[simp] theorem State.post_pending (s : State) (n : Notice) : (s.post n).pending = s.pending := rfl
@[simp] theorem State.post_lane (s : State) (n : Notice) (i : LaneId) : (s.post n).lane i = s.lane i := rfl
@[simp] theorem State.post_paceOf (s : State) (n : Notice) (i : LaneId) : (s.post n).paceOf i = s.paceOf i := rfl
@[simp] theorem State.post_share (s : State) (n : Notice) (i : LaneId) : (s.post n).share i = s.share i := rfl
@[simp] theorem State.post_tray (s : State) (n : Notice) (x : Nat) : (s.post n).tray x = s.tray x := rfl
@[simp] theorem State.post_profile (s : State) (n : Notice) (i : ProfileId) : (s.post n).profile i = s.profile i := rfl
@[simp] theorem State.post_holdBlocked (s : State) (n : Notice) (i : LaneId) : (s.post n).holdBlocked i = s.holdBlocked i := rfl

/-! #### `State.setCheckEye` -/

@[simp] theorem State.setCheckEye_ltk (s : State) (b : Bool) : (s.setCheckEye b).ltk = s.ltk := rfl
@[simp] theorem State.setCheckEye_tmap (s : State) (b : Bool) : (s.setCheckEye b).tmap = s.tmap := rfl
@[simp] theorem State.setCheckEye_csm (s : State) (b : Bool) : (s.setCheckEye b).csm = s.csm := rfl
@[simp] theorem State.setCheckEye_eal (s : State) (b : Bool) : (s.setCheckEye b).eal = s.eal := rfl
@[simp] theorem State.setCheckEye_lanes (s : State) (b : Bool) : (s.setCheckEye b).lanes = s.lanes := rfl
@[simp] theorem State.setCheckEye_pace (s : State) (b : Bool) : (s.setCheckEye b).pace = s.pace := rfl
@[simp] theorem State.setCheckEye_pst (s : State) (b : Bool) : (s.setCheckEye b).pst = s.pst := rfl
@[simp] theorem State.setCheckEye_links (s : State) (b : Bool) : (s.setCheckEye b).links = s.links := rfl
@[simp] theorem State.setCheckEye_micros (s : State) (b : Bool) : (s.setCheckEye b).micros = s.micros := rfl
@[simp] theorem State.setCheckEye_pending (s : State) (b : Bool) : (s.setCheckEye b).pending = s.pending := rfl
@[simp] theorem State.setCheckEye_lane (s : State) (b : Bool) (i : LaneId) : (s.setCheckEye b).lane i = s.lane i := rfl
@[simp] theorem State.setCheckEye_paceOf (s : State) (b : Bool) (i : LaneId) : (s.setCheckEye b).paceOf i = s.paceOf i := rfl
@[simp] theorem State.setCheckEye_share (s : State) (b : Bool) (i : LaneId) : (s.setCheckEye b).share i = s.share i := rfl
@[simp] theorem State.setCheckEye_link (s : State) (b : Bool) (j : LinkId) : (s.setCheckEye b).link j = s.link j := rfl
@[simp] theorem State.setCheckEye_tray (s : State) (b : Bool) (x : Nat) : (s.setCheckEye b).tray x = s.tray x := rfl
@[simp] theorem State.setCheckEye_profile (s : State) (b : Bool) (i : ProfileId) : (s.setCheckEye b).profile i = s.profile i := rfl

/-! #### `State.setLengthEye` -/

@[simp] theorem State.setLengthEye_ltk (s : State) (l : LaneId) (b : Bool) : (s.setLengthEye l b).ltk = s.ltk := rfl
@[simp] theorem State.setLengthEye_tmap (s : State) (l : LaneId) (b : Bool) : (s.setLengthEye l b).tmap = s.tmap := rfl
@[simp] theorem State.setLengthEye_csm (s : State) (l : LaneId) (b : Bool) : (s.setLengthEye l b).csm = s.csm := rfl
@[simp] theorem State.setLengthEye_eal (s : State) (l : LaneId) (b : Bool) : (s.setLengthEye l b).eal = s.eal := rfl
@[simp] theorem State.setLengthEye_lanes (s : State) (l : LaneId) (b : Bool) : (s.setLengthEye l b).lanes = s.lanes := rfl
@[simp] theorem State.setLengthEye_pace (s : State) (l : LaneId) (b : Bool) : (s.setLengthEye l b).pace = s.pace := rfl
@[simp] theorem State.setLengthEye_pst (s : State) (l : LaneId) (b : Bool) : (s.setLengthEye l b).pst = s.pst := rfl
@[simp] theorem State.setLengthEye_links (s : State) (l : LaneId) (b : Bool) : (s.setLengthEye l b).links = s.links := rfl
@[simp] theorem State.setLengthEye_micros (s : State) (l : LaneId) (b : Bool) : (s.setLengthEye l b).micros = s.micros := rfl
@[simp] theorem State.setLengthEye_pending (s : State) (l : LaneId) (b : Bool) : (s.setLengthEye l b).pending = s.pending := rfl
@[simp] theorem State.setLengthEye_lane (s : State) (l : LaneId) (b : Bool) (i : LaneId) : (s.setLengthEye l b).lane i = s.lane i := rfl
@[simp] theorem State.setLengthEye_paceOf (s : State) (l : LaneId) (b : Bool) (i : LaneId) : (s.setLengthEye l b).paceOf i = s.paceOf i := rfl
@[simp] theorem State.setLengthEye_share (s : State) (l : LaneId) (b : Bool) (i : LaneId) : (s.setLengthEye l b).share i = s.share i := rfl
@[simp] theorem State.setLengthEye_link (s : State) (l : LaneId) (b : Bool) (j : LinkId) : (s.setLengthEye l b).link j = s.link j := rfl
@[simp] theorem State.setLengthEye_tray (s : State) (l : LaneId) (b : Bool) (x : Nat) : (s.setLengthEye l b).tray x = s.tray x := rfl
@[simp] theorem State.setLengthEye_profile (s : State) (l : LaneId) (b : Bool) (i : ProfileId) : (s.setLengthEye l b).profile i = s.profile i := rfl

/-! #### `State.setHoldEye` -/

@[simp] theorem State.setHoldEye_ltk (s : State) (l : LaneId) (b : Bool) : (s.setHoldEye l b).ltk = s.ltk := rfl
@[simp] theorem State.setHoldEye_tmap (s : State) (l : LaneId) (b : Bool) : (s.setHoldEye l b).tmap = s.tmap := rfl
@[simp] theorem State.setHoldEye_csm (s : State) (l : LaneId) (b : Bool) : (s.setHoldEye l b).csm = s.csm := rfl
@[simp] theorem State.setHoldEye_eal (s : State) (l : LaneId) (b : Bool) : (s.setHoldEye l b).eal = s.eal := rfl
@[simp] theorem State.setHoldEye_lanes (s : State) (l : LaneId) (b : Bool) : (s.setHoldEye l b).lanes = s.lanes := rfl
@[simp] theorem State.setHoldEye_pace (s : State) (l : LaneId) (b : Bool) : (s.setHoldEye l b).pace = s.pace := rfl
@[simp] theorem State.setHoldEye_pst (s : State) (l : LaneId) (b : Bool) : (s.setHoldEye l b).pst = s.pst := rfl
@[simp] theorem State.setHoldEye_links (s : State) (l : LaneId) (b : Bool) : (s.setHoldEye l b).links = s.links := rfl
@[simp] theorem State.setHoldEye_micros (s : State) (l : LaneId) (b : Bool) : (s.setHoldEye l b).micros = s.micros := rfl
@[simp] theorem State.setHoldEye_pending (s : State) (l : LaneId) (b : Bool) : (s.setHoldEye l b).pending = s.pending := rfl
@[simp] theorem State.setHoldEye_lane (s : State) (l : LaneId) (b : Bool) (i : LaneId) : (s.setHoldEye l b).lane i = s.lane i := rfl
@[simp] theorem State.setHoldEye_paceOf (s : State) (l : LaneId) (b : Bool) (i : LaneId) : (s.setHoldEye l b).paceOf i = s.paceOf i := rfl
@[simp] theorem State.setHoldEye_share (s : State) (l : LaneId) (b : Bool) (i : LaneId) : (s.setHoldEye l b).share i = s.share i := rfl
@[simp] theorem State.setHoldEye_link (s : State) (l : LaneId) (b : Bool) (j : LinkId) : (s.setHoldEye l b).link j = s.link j := rfl
@[simp] theorem State.setHoldEye_tray (s : State) (l : LaneId) (b : Bool) (x : Nat) : (s.setHoldEye l b).tray x = s.tray x := rfl
@[simp] theorem State.setHoldEye_profile (s : State) (l : LaneId) (b : Bool) (i : ProfileId) : (s.setHoldEye l b).profile i = s.profile i := rfl

/-! #### `State.setRestartLine` -/

@[simp] theorem State.setRestartLine_ltk (s : State) (b : Bool) : (s.setRestartLine b).ltk = s.ltk := rfl
@[simp] theorem State.setRestartLine_tmap (s : State) (b : Bool) : (s.setRestartLine b).tmap = s.tmap := rfl
@[simp] theorem State.setRestartLine_csm (s : State) (b : Bool) : (s.setRestartLine b).csm = s.csm := rfl
@[simp] theorem State.setRestartLine_eal (s : State) (b : Bool) : (s.setRestartLine b).eal = s.eal := rfl
@[simp] theorem State.setRestartLine_lanes (s : State) (b : Bool) : (s.setRestartLine b).lanes = s.lanes := rfl
@[simp] theorem State.setRestartLine_pace (s : State) (b : Bool) : (s.setRestartLine b).pace = s.pace := rfl
@[simp] theorem State.setRestartLine_pst (s : State) (b : Bool) : (s.setRestartLine b).pst = s.pst := rfl
@[simp] theorem State.setRestartLine_links (s : State) (b : Bool) : (s.setRestartLine b).links = s.links := rfl
@[simp] theorem State.setRestartLine_micros (s : State) (b : Bool) : (s.setRestartLine b).micros = s.micros := rfl
@[simp] theorem State.setRestartLine_pending (s : State) (b : Bool) : (s.setRestartLine b).pending = s.pending := rfl
@[simp] theorem State.setRestartLine_lane (s : State) (b : Bool) (i : LaneId) : (s.setRestartLine b).lane i = s.lane i := rfl
@[simp] theorem State.setRestartLine_paceOf (s : State) (b : Bool) (i : LaneId) : (s.setRestartLine b).paceOf i = s.paceOf i := rfl
@[simp] theorem State.setRestartLine_share (s : State) (b : Bool) (i : LaneId) : (s.setRestartLine b).share i = s.share i := rfl
@[simp] theorem State.setRestartLine_link (s : State) (b : Bool) (j : LinkId) : (s.setRestartLine b).link j = s.link j := rfl
@[simp] theorem State.setRestartLine_tray (s : State) (b : Bool) (x : Nat) : (s.setRestartLine b).tray x = s.tray x := rfl
@[simp] theorem State.setRestartLine_profile (s : State) (b : Bool) (i : ProfileId) : (s.setRestartLine b).profile i = s.profile i := rfl

/-! #### `State.tally` -/

@[simp] theorem State.tally_ltk (s : State) (n : Nat) : (s.tally n).ltk = s.ltk := rfl
@[simp] theorem State.tally_tmap (s : State) (n : Nat) : (s.tally n).tmap = s.tmap := rfl
@[simp] theorem State.tally_eal (s : State) (n : Nat) : (s.tally n).eal = s.eal := rfl
@[simp] theorem State.tally_lanes (s : State) (n : Nat) : (s.tally n).lanes = s.lanes := rfl
@[simp] theorem State.tally_pace (s : State) (n : Nat) : (s.tally n).pace = s.pace := rfl
@[simp] theorem State.tally_pst (s : State) (n : Nat) : (s.tally n).pst = s.pst := rfl
@[simp] theorem State.tally_links (s : State) (n : Nat) : (s.tally n).links = s.links := rfl
@[simp] theorem State.tally_lines (s : State) (n : Nat) : (s.tally n).lines = s.lines := rfl
@[simp] theorem State.tally_micros (s : State) (n : Nat) : (s.tally n).micros = s.micros := rfl
@[simp] theorem State.tally_pending (s : State) (n : Nat) : (s.tally n).pending = s.pending := rfl
@[simp] theorem State.tally_lane (s : State) (n : Nat) (i : LaneId) : (s.tally n).lane i = s.lane i := rfl
@[simp] theorem State.tally_paceOf (s : State) (n : Nat) (i : LaneId) : (s.tally n).paceOf i = s.paceOf i := rfl
@[simp] theorem State.tally_share (s : State) (n : Nat) (i : LaneId) : (s.tally n).share i = s.share i := rfl
@[simp] theorem State.tally_link (s : State) (n : Nat) (j : LinkId) : (s.tally n).link j = s.link j := rfl
@[simp] theorem State.tally_tray (s : State) (n : Nat) (x : Nat) : (s.tally n).tray x = s.tray x := rfl
@[simp] theorem State.tally_profile (s : State) (n : Nat) (i : ProfileId) : (s.tally n).profile i = s.profile i := rfl
@[simp] theorem State.tally_holdBlocked (s : State) (n : Nat) (i : LaneId) : (s.tally n).holdBlocked i = s.holdBlocked i := rfl

/-! #### `State.reloadQuotas` -/

@[simp] theorem State.reloadQuotas_ltk (s : State) : (s.reloadQuotas).ltk = s.ltk := rfl
@[simp] theorem State.reloadQuotas_tmap (s : State) : (s.reloadQuotas).tmap = s.tmap := rfl
@[simp] theorem State.reloadQuotas_csm (s : State) : (s.reloadQuotas).csm = s.csm := rfl
@[simp] theorem State.reloadQuotas_lanes (s : State) : (s.reloadQuotas).lanes = s.lanes := rfl
@[simp] theorem State.reloadQuotas_pace (s : State) : (s.reloadQuotas).pace = s.pace := rfl
@[simp] theorem State.reloadQuotas_pst (s : State) : (s.reloadQuotas).pst = s.pst := rfl
@[simp] theorem State.reloadQuotas_links (s : State) : (s.reloadQuotas).links = s.links := rfl
@[simp] theorem State.reloadQuotas_lines (s : State) : (s.reloadQuotas).lines = s.lines := rfl
@[simp] theorem State.reloadQuotas_micros (s : State) : (s.reloadQuotas).micros = s.micros := rfl
@[simp] theorem State.reloadQuotas_pending (s : State) : (s.reloadQuotas).pending = s.pending := rfl
@[simp] theorem State.reloadQuotas_lane (s : State) (i : LaneId) : (s.reloadQuotas).lane i = s.lane i := rfl
@[simp] theorem State.reloadQuotas_paceOf (s : State) (i : LaneId) : (s.reloadQuotas).paceOf i = s.paceOf i := rfl
@[simp] theorem State.reloadQuotas_link (s : State) (j : LinkId) : (s.reloadQuotas).link j = s.link j := rfl
@[simp] theorem State.reloadQuotas_tray (s : State) (x : Nat) : (s.reloadQuotas).tray x = s.tray x := rfl
@[simp] theorem State.reloadQuotas_profile (s : State) (i : ProfileId) : (s.reloadQuotas).profile i = s.profile i := rfl
@[simp] theorem State.reloadQuotas_holdBlocked (s : State) (i : LaneId) : (s.reloadQuotas).holdBlocked i = s.holdBlocked i := rfl

/-! ### What an update writes -/

@[simp] theorem State.lane_setLane_self (s : State) (l : LaneId) (ln : Lane) : (s.setLane l ln).lane l = ln := by
  simp [State.lane, State.setLane]

theorem State.lane_setLane_ne (s : State) {l k : LaneId} (h : k ≠ l) (ln : Lane) :
    (s.setLane l ln).lane k = s.lane k := by
  simp [State.lane, State.setLane, Bank.get_set_ne _ h]

theorem State.lane_setLane (s : State) (l k : LaneId) (ln : Lane) :
    (s.setLane l ln).lane k = if k = l then ln else s.lane k := by
  simp [State.lane, State.setLane, Bank.get_set]

@[simp] theorem State.lane_modLane_self (s : State) (l : LaneId) (f : Lane → Lane) :
    (s.modLane l f).lane l = f (s.lane l) := by simp [State.modLane]

theorem State.lane_modLane_ne (s : State) {l k : LaneId} (h : k ≠ l) (f : Lane → Lane) :
    (s.modLane l f).lane k = s.lane k := by simp [State.modLane, State.lane_setLane_ne s h]

theorem State.lane_modLane (s : State) (l k : LaneId) (f : Lane → Lane) :
    (s.modLane l f).lane k = if k = l then f (s.lane l) else s.lane k := by
  simp [State.modLane, State.lane_setLane]

@[simp] theorem State.paceOf_modPace_self (s : State) (l : LaneId) (f : Pace → Pace) :
    (s.modPace l f).paceOf l = f (s.paceOf l) := by simp [State.paceOf, State.modPace]

theorem State.paceOf_modPace (s : State) (l k : LaneId) (f : Pace → Pace) :
    (s.modPace l f).paceOf k = if k = l then f (s.paceOf l) else s.paceOf k := by
  simp [State.paceOf, State.modPace, Bank.get_set]

@[simp] theorem State.share_modShare_self (s : State) (l : LaneId) (f : Share → Share) :
    (s.modShare l f).share l = f (s.share l) := by simp [State.share, State.modShare]

theorem State.share_modShare (s : State) (l k : LaneId) (f : Share → Share) :
    (s.modShare l f).share k = if k = l then f (s.share l) else s.share k := by
  simp [State.share, State.modShare, Bank.get_set]

@[simp] theorem State.link_modLink_self (s : State) (k : LinkId) (f : Link → Link) :
    (s.modLink k f).link k = f (s.link k) := by simp [State.link, State.modLink]

theorem State.link_modLink (s : State) (k j : LinkId) (f : Link → Link) :
    (s.modLink k f).link j = if j = k then f (s.link k) else s.link j := by
  simp [State.link, State.modLink, Bank.get_set]

@[simp] theorem State.ltk_modLtk (s : State) (f : Ltk → Ltk) : (s.modLtk f).ltk = f s.ltk := rfl

@[simp] theorem State.micros_clock (s : State) (m : Moment) : (s.clock m).micros = m.reading := rfl

@[simp] theorem State.lane_clock (s : State) (m : Moment) (l : LaneId) :
    (s.clock m).lane l = (s.lane l).passTime (m.reading - s.micros) := by simp [State.lane, State.clock]

@[simp] theorem State.link_post (s : State) (n : Notice) (k : LinkId) :
    (s.post n).link k = if (s.link k).hears n.audience then Link.post n (s.link k) else s.link k :=
  Bank.get_map _ _ _

theorem State.tmap_putTray (s : State) (t : Nat) (e : Tray) : (s.putTray t e).tmap = s.tmap.set t e := by
  simp [State.putTray]

@[simp] theorem State.rotation_modShare (s : State) (l : LaneId) (f : Share → Share) :
    (s.modShare l f).eal.rotation = s.eal.rotation := rfl

@[simp] theorem State.position_modShare (s : State) (l : LaneId) (f : Share → Share) :
    (s.modShare l f).eal.position = s.eal.position := rfl

/-! ### Time passing over a lane touches its belt-time alone (R65) -/

@[simp] theorem Lane.passTime_mode (ln : Lane) (dt : Micros) : (ln.passTime dt).mode = ln.mode := by
  simp only [Lane.passTime]; split <;> rfl

@[simp] theorem Lane.passTime_state (ln : Lane) (dt : Micros) : (ln.passTime dt).state = ln.state := by
  simp only [Lane.passTime]; split <;> rfl

@[simp] theorem Lane.passTime_records (ln : Lane) (dt : Micros) : (ln.passTime dt).records = ln.records := by
  simp only [Lane.passTime]; split <;> rfl

@[simp] theorem Lane.passTime_tickets (ln : Lane) (dt : Micros) : (ln.passTime dt).tickets = ln.tickets := by
  simp only [Lane.passTime]; split <;> rfl

@[simp] theorem Lane.passTime_inflight (ln : Lane) (dt : Micros) : (ln.passTime dt).inflight = ln.inflight := by
  simp only [Lane.passTime]; split <;> rfl

@[simp] theorem Lane.passTime_pausePending (ln : Lane) (dt : Micros) : (ln.passTime dt).pausePending = ln.pausePending := by
  simp only [Lane.passTime]; split <;> rfl

@[simp] theorem Lane.passTime_overfillPending (ln : Lane) (dt : Micros) : (ln.passTime dt).overfillPending = ln.overfillPending := by
  simp only [Lane.passTime]; split <;> rfl

@[simp] theorem Lane.passTime_overfillDue (ln : Lane) (dt : Micros) : (ln.passTime dt).overfillDue = ln.overfillDue := by
  simp only [Lane.passTime]; split <;> rfl

@[simp] theorem Lane.passTime_leadMark (ln : Lane) (dt : Micros) : (ln.passTime dt).leadMark = ln.leadMark := by
  simp only [Lane.passTime]; split <;> rfl

@[simp] theorem Lane.passTime_profile (ln : Lane) (dt : Micros) : (ln.passTime dt).profile = ln.profile := by
  simp only [Lane.passTime]; split <;> rfl

@[simp] theorem Lane.passTime_copy (ln : Lane) (dt : Micros) : (ln.passTime dt).copy = ln.copy := by
  simp only [Lane.passTime]; split <;> rfl

@[simp] theorem Lane.passTime_adoptPending (ln : Lane) (dt : Micros) : (ln.passTime dt).adoptPending = ln.adoptPending := by
  simp only [Lane.passTime]; split <;> rfl

@[simp] theorem Lane.passTime_counters (ln : Lane) (dt : Micros) : (ln.passTime dt).counters = ln.counters := by
  simp only [Lane.passTime]; split <;> rfl

@[simp] theorem Lane.passTime_launchesRev (ln : Lane) (dt : Micros) : (ln.passTime dt).launchesRev = ln.launchesRev := by
  simp only [Lane.passTime]; split <;> rfl

/-- Two passages of time are one passage of their sum. -/
theorem Lane.passTime_passTime (ln : Lane) (a b : Micros) :
    (ln.passTime a).passTime b = ln.passTime (a + b) := by
  by_cases h : ln.waitBelt = true
  · have h1 : ln.passTime a = { ln with beltTime := ln.beltTime + a } := by simp [Lane.passTime, h]
    have h2 : Lane.waitBelt { ln with beltTime := ln.beltTime + a } = true := h
    rw [h1, Lane.passTime, h2, Lane.passTime, h]
    simp [BitVec.add_assoc]
  · simp [Lane.passTime, h]

/-- Time that passes in two pieces is time that passes at once. -/
theorem State.clock_clock (s : State) (m m' : Moment) : (s.clock m).clock m' = s.clock m' := by
  have h : ∀ ln : Lane, (ln.passTime (m.reading - s.micros)).passTime (m'.reading - m.reading)
      = ln.passTime (m'.reading - s.micros) := by
    intro ln
    rw [Lane.passTime_passTime]
    congr 1
    bv_omega
  simp only [State.clock, Bank.map_map]
  congr 1
  apply Bank.ext_get
  intro i
  simp [h]

end Sys2Proof.Machine
end

