-- ==== Sys2Proof/Laws/Trays.lean ====
section
/-! SUPPORT. What the operations on tray entries and earmarks can do: the tray they write, the others, and the
outstanding counts that go with them. -/

namespace Sys2Proof.Machine

/-! ### Writing an entry -/

@[simp] theorem State.length_putTray (s : State) (t : Nat) (e : Tray) :
    (s.putTray t e).tmap.length = s.tmap.length := by simp [State.tmap_putTray]

theorem State.tray_putTray (s : State) (t x : Nat) (e : Tray) :
    (s.putTray t e).tray x = if x = t ∧ t < s.tmap.length then e else s.tray x := by
  simp only [State.tray, State.tmap_putTray, List.getD_eq_getElem?_getD, List.getElem?_set]
  by_cases h : t = x
  · subst h
    by_cases h2 : t < s.tmap.length
    · simp [h2]
    · simp [h2]
  · simp [h, Ne.symm h]

theorem State.tray_putTray_self (s : State) {t : Nat} (e : Tray) (h : t < s.tmap.length) :
    (s.putTray t e).tray t = e := by simp [State.tray_putTray, h]

theorem State.tray_putTray_ne (s : State) {t x : Nat} (e : Tray) (h : x ≠ t) :
    (s.putTray t e).tray x = s.tray x := by simp [State.tray_putTray, h]

/-- A tray that does not read as UNVERIFIED without a mark lies in the map. -/
theorem State.tray_lt (s : State) {t : Nat} (h : s.tray t ≠ .unverified false) : t < s.tmap.length := by
  by_cases h2 : t < s.tmap.length
  · exact h2
  · exact absurd (by simp [State.tray, List.getElem?_eq_none (Nat.le_of_not_lt h2)]) h

/-- Where neither entry carries an earmark, writing one changes the map alone. -/
theorem State.putTray_unmarked (s : State) (t : Nat) (e : Tray) (h : (s.tray t).earmark = none)
    (h' : e.earmark = none) : s.putTray t e = { s with tmap := s.tmap.set t e } := by
  simp [State.putTray, h, h', State.lowerOutstanding, State.raiseOutstanding]

@[simp] theorem State.rotation_putTray (s : State) (t : Nat) (e : Tray) :
    (s.putTray t e).eal.rotation = s.eal.rotation := by
  simp only [State.putTray]
  cases (s.tray t).earmark <;> cases e.earmark <;> rfl

@[simp] theorem State.position_putTray (s : State) (t : Nat) (e : Tray) :
    (s.putTray t e).eal.position = s.eal.position := by
  simp only [State.putTray]
  cases (s.tray t).earmark <;> cases e.earmark <;> rfl

/-- A share keeps its reload value and its counter when an entry is written. -/
theorem State.quota_putTray (s : State) (t : Nat) (e : Tray) (l : LaneId) :
    ((s.putTray t e).share l).reload = (s.share l).reload
      ∧ ((s.putTray t e).share l).counter = (s.share l).counter := by
  have key : ((s.putTray t e).share l)
      = (((s.lowerOutstanding (s.tray t).earmark).raiseOutstanding e.earmark).share l) := rfl
  rw [key]
  cases h1 : (s.tray t).earmark <;> cases h2 : e.earmark <;>
    simp only [State.lowerOutstanding, State.raiseOutstanding, State.share_modShare] <;>
    (try split) <;> (try split) <;> simp_all

/-! ### Removing earmarks -/

@[simp] theorem length_eraseEarmarks (gone : Nat → LaneId → Bool) (es : List Tray) (t : Nat) :
    (eraseEarmarks gone t es).length = es.length := by
  induction es generalizing t with
  | nil => rfl
  | cons e es ih => simp [eraseEarmarks, ih]

theorem getElem?_eraseEarmarks (gone : Nat → LaneId → Bool) (es : List Tray) (t x : Nat) :
    (eraseEarmarks gone t es)[x]? = es[x]?.map (fun e => e.eraseEarmark gone (t + x)) := by
  induction es generalizing t x with
  | nil => simp [eraseEarmarks]
  | cons e es ih =>
    cases x with
    | zero => simp [eraseEarmarks]
    | succ x => simp [eraseEarmarks, ih, Nat.add_assoc, Nat.add_comm 1 x]

/-- Every tray reads as before but for the earmarks that go. -/
theorem tray_eraseEarmarks (s : State) (gone : Nat → LaneId → Bool) (x : Nat) :
    State.tray { s with tmap := eraseEarmarks gone 0 s.tmap } x = (s.tray x).eraseEarmark gone x := by
  simp only [State.tray, List.getD_eq_getElem?_getD, getElem?_eraseEarmarks, Nat.zero_add]
  cases s.tmap[x]? <;> rfl

@[simp] theorem State.length_clearEarmarks (s : State) : s.clearEarmarks.tmap.length = s.tmap.length := by
  simp [State.clearEarmarks]

@[simp] theorem State.length_dropEarmarks (s : State) (l : LaneId) :
    (s.dropEarmarks l).tmap.length = s.tmap.length := by simp [State.dropEarmarks]

@[simp] theorem State.length_lapseEarmarks (s : State) (n : Nat) (l : LaneId) (c : Nat) :
    (s.lapseEarmarks n l c).tmap.length = s.tmap.length := by simp [State.lapseEarmarks]

/-- R10, R16: after all earmarks are removed a FREE tray carries none, and any other tray is as it was. -/
theorem State.tray_clearEarmarks (s : State) (x : Nat) :
    s.clearEarmarks.tray x = match s.tray x with
      | .free _ => .free none
      | e => e := by
  have h : s.clearEarmarks.tray x = (s.tray x).eraseEarmark (fun _ _ => true) x := tray_eraseEarmarks s _ x
  rw [h]
  cases s.tray x with
  | free e => cases e <;> rfl
  | _ => rfl

/-- R133: after a lane drops its earmarks none names it, and any other tray is as it was. -/
theorem State.tray_dropEarmarks (s : State) (l : LaneId) (x : Nat) :
    (s.dropEarmarks l).tray x = if s.tray x = .free (some l) then .free none else s.tray x := by
  have h : (s.dropEarmarks l).tray x = (s.tray x).eraseEarmark (fun _ k => k == l) x := tray_eraseEarmarks s _ x
  rw [h]
  cases s.tray x with
  | free e =>
    cases e with
    | none => simp [Tray.eraseEarmark]
    | some k => by_cases hk : k = l <;> simp [Tray.eraseEarmark, hk]
  | _ => simp [Tray.eraseEarmark]

/-- R132: which earmarks lapse at the reach point `c`. -/
theorem State.tray_lapseEarmarks (s : State) (n : Nat) (l : LaneId) (c x : Nat) :
    (s.lapseEarmarks n l c).tray x =
      if s.tray x = .free (some l) ∧ 1 ≤ ringPos n ((c : Int) - (x : Int)) ∧ ringPos n ((c : Int) - (x : Int)) ≤ n / 2
      then .free none else s.tray x := by
  have h : (s.lapseEarmarks n l c).tray x = (s.tray x).eraseEarmark
      (fun t k => k == l && decide (1 ≤ ringPos n ((c : Int) - (t : Int)) ∧ ringPos n ((c : Int) - (t : Int)) ≤ n / 2)) x :=
    tray_eraseEarmarks s _ x
  rw [h]
  cases s.tray x with
  | free e =>
    cases e with
    | none => simp [Tray.eraseEarmark]
    | some k => by_cases hk : k = l <;> simp [Tray.eraseEarmark, hk]
  | _ => simp [Tray.eraseEarmark]

@[simp] theorem State.share_clearEarmarks (s : State) (l : LaneId) :
    s.clearEarmarks.share l = { s.share l with outstanding := 0 } := by
  simp [State.clearEarmarks, State.share]

theorem State.share_dropEarmarks (s : State) (l k : LaneId) :
    (s.dropEarmarks l).share k = if k = l then { s.share l with outstanding := 0 } else s.share k := by
  simp only [State.dropEarmarks, State.share_modShare]; rfl

theorem State.share_lapseEarmarks (s : State) (n : Nat) (l : LaneId) (c : Nat) (k : LaneId) :
    (s.lapseEarmarks n l c).share k =
      if k = l then
        { s.share l with outstanding := (s.share l).outstanding
            - (countEarmarks l s.tmap - countEarmarks l (s.lapseEarmarks n l c).tmap) }
      else s.share k := by
  simp only [State.lapseEarmarks, State.share_modShare]; rfl

@[simp] theorem State.rotation_clearEarmarks (s : State) : s.clearEarmarks.eal.rotation = s.eal.rotation := rfl
@[simp] theorem State.position_clearEarmarks (s : State) : s.clearEarmarks.eal.position = s.eal.position := rfl
@[simp] theorem State.rotation_dropEarmarks (s : State) (l : LaneId) :
    (s.dropEarmarks l).eal.rotation = s.eal.rotation := rfl
@[simp] theorem State.position_dropEarmarks (s : State) (l : LaneId) :
    (s.dropEarmarks l).eal.position = s.eal.position := rfl
@[simp] theorem State.rotation_lapseEarmarks (s : State) (n : Nat) (l : LaneId) (c : Nat) :
    (s.lapseEarmarks n l c).eal.rotation = s.eal.rotation := rfl
@[simp] theorem State.position_lapseEarmarks (s : State) (n : Nat) (l : LaneId) (c : Nat) :
    (s.lapseEarmarks n l c).eal.position = s.eal.position := rfl

/-! ### Counting earmarks (R131) -/

/-- How many trays carry an earmark for a lane, after one entry is replaced. -/
theorem countEarmarks_set (l : LaneId) (es : List Tray) (t : Nat) (e : Tray) (h : t < es.length) :
    countEarmarks l (es.set t e) + (if es[t].earmark = some l then 1 else 0)
      = countEarmarks l es + (if e.earmark = some l then 1 else 0) := by
  induction es generalizing t with
  | nil => simp at h
  | cons a as ih =>
    cases t with
    | zero =>
      simp only [countEarmarks, List.set_cons_zero, List.countP_cons, List.getElem_cons_zero, beq_iff_eq]
      omega
    | succ t =>
      have := ih t (by simpa using h)
      simp only [countEarmarks, List.set_cons_succ, List.countP_cons, List.getElem_cons_succ] at this ⊢
      omega

theorem countEarmarks_pos (l : LaneId) (es : List Tray) (t : Nat) (h : t < es.length) (he : es[t].earmark = some l) :
    0 < countEarmarks l es := by
  simp only [countEarmarks, List.countP_pos_iff]
  exact ⟨es[t], List.getElem_mem h, by simp [he]⟩

theorem Tray.earmark_eraseEarmark (gone : Nat → LaneId → Bool) (t : Nat) (e : Tray) :
    (e.eraseEarmark gone t).earmark = e.earmark.filter (fun l => !gone t l) := by
  cases e with
  | free k =>
    cases k with
    | none => rfl
    | some k =>
      by_cases hg : gone t k = true
      · simp [Tray.eraseEarmark, Tray.earmark, Option.filter, hg]
      · simp [Tray.eraseEarmark, Tray.earmark, Option.filter, hg]
  | _ => rfl

theorem countEarmarks_cons (l : LaneId) (e : Tray) (es : List Tray) :
    countEarmarks l (e :: es) = countEarmarks l es + if e.earmark = some l then 1 else 0 := by
  simp [countEarmarks, List.countP_cons]

theorem countEarmarks_erase_le (gone : Nat → LaneId → Bool) (l : LaneId) (es : List Tray) (t : Nat) :
    countEarmarks l (eraseEarmarks gone t es) ≤ countEarmarks l es := by
  induction es generalizing t with
  | nil => simp [eraseEarmarks]
  | cons e es ih =>
    have := ih (t + 1)
    clear ih
    simp only [eraseEarmarks, countEarmarks_cons, Tray.earmark_eraseEarmark]
    cases e.earmark with
    | none => simpa using this
    | some k => by_cases hk : k = l <;> by_cases hg : gone t k = true <;> simp_all [Option.filter]; omega

/-- Where no earmark of a lane goes, its count stays. -/
theorem countEarmarks_erase_other (gone : Nat → LaneId → Bool) (l : LaneId) (h : ∀ t, gone t l = false)
    (es : List Tray) (t : Nat) : countEarmarks l (eraseEarmarks gone t es) = countEarmarks l es := by
  induction es generalizing t with
  | nil => simp [eraseEarmarks]
  | cons e es ih =>
    simp only [eraseEarmarks, countEarmarks_cons, Tray.earmark_eraseEarmark, ih]
    cases e.earmark with
    | none => rfl
    | some k =>
      by_cases hk : k = l
      · subst hk; simp [h]
      · simp [hk]

/-- Where every earmark of a lane goes, its count is 0. -/
theorem countEarmarks_erase_all (gone : Nat → LaneId → Bool) (l : LaneId) (h : ∀ t, gone t l = true)
    (es : List Tray) (t : Nat) : countEarmarks l (eraseEarmarks gone t es) = 0 := by
  induction es generalizing t with
  | nil => simp [eraseEarmarks, countEarmarks]
  | cons e es ih =>
    simp only [eraseEarmarks, countEarmarks_cons, Tray.earmark_eraseEarmark, ih]
    cases e.earmark with
    | none => rfl
    | some k =>
      by_cases hk : k = l
      · subst hk; simp [h]
      · simp [hk]

/-! ### The outstanding counts follow the map (R131)

`s.Tallied` is the part of the accounting that every operation on the map keeps, whatever the loop's state. -/

/-- R131: every lane's outstanding count is the number of trays earmarked to it. -/
def State.Tallied (s : State) : Prop := ∀ l, (s.share l).outstanding = countEarmarks l s.tmap

theorem State.Tallied.putTray {s : State} (h : s.Tallied) (t : Nat) (e : Tray)
    (he : t < s.tmap.length ∨ e.earmark = none) : (s.putTray t e).Tallied := by
  intro l
  have hl := h l
  by_cases ht : t < s.tmap.length
  · have hc := countEarmarks_set l s.tmap t e ht
    have hg : s.tray t = s.tmap[t] := by simp [State.tray, ht]
    have hp : s.tmap[t].earmark = some l → 0 < countEarmarks l s.tmap := countEarmarks_pos l s.tmap t ht
    rw [State.tmap_putTray]
    have hs : (s.putTray t e).share l
        = ((s.lowerOutstanding (s.tray t).earmark).raiseOutstanding e.earmark).share l := rfl
    rw [hs, hg]
    cases h1 : s.tmap[t].earmark with
    | none =>
      cases h2 : e.earmark with
      | none => simp [h1, h2, State.lowerOutstanding, State.raiseOutstanding] at hc ⊢; omega
      | some b =>
        simp only [State.lowerOutstanding, State.raiseOutstanding, State.share_modShare]
        by_cases hb : l = b
        · subst hb; simp [h1, h2] at hc ⊢; omega
        · simp [h1, h2, hb, Ne.symm hb] at hc ⊢; omega
    | some a =>
      cases h2 : e.earmark with
      | none =>
        simp only [State.lowerOutstanding, State.raiseOutstanding, State.share_modShare]
        by_cases ha : l = a
        · subst ha; simp [h1, h2] at hc hp ⊢; omega
        · simp [h1, h2, ha, Ne.symm ha] at hc ⊢; omega
      | some b =>
        simp only [State.lowerOutstanding, State.raiseOutstanding, State.share_modShare]
        by_cases ha : l = a <;> by_cases hb : l = b
        · subst ha; subst hb; simp [h1, h2] at hc hp ⊢; omega
        · subst ha; simp [h1, h2, hb, Ne.symm hb] at hc hp ⊢; omega
        · subst hb; simp [h1, h2, ha, Ne.symm ha] at hc hp ⊢; omega
        · simp [h1, h2, ha, hb, Ne.symm ha, Ne.symm hb] at hc hp ⊢; omega
  · have he' : e.earmark = none := he.resolve_left ht
    have hu : (s.tray t).earmark = none := by
      simp [State.tray, List.getElem?_eq_none (Nat.le_of_not_lt ht), Tray.earmark]
    rw [s.putTray_unmarked t e hu he']
    have : s.tmap.set t e = s.tmap := List.set_eq_of_length_le (Nat.le_of_not_lt ht)
    simpa [this] using hl

theorem State.Tallied.clearEarmarks {s : State} : s.clearEarmarks.Tallied := by
  intro l
  rw [State.share_clearEarmarks]
  exact (countEarmarks_erase_all _ l (fun _ => rfl) s.tmap 0).symm

theorem State.Tallied.dropEarmarks {s : State} (h : s.Tallied) (l : LaneId) : (s.dropEarmarks l).Tallied := by
  intro k
  have ht : (s.dropEarmarks l).tmap = eraseEarmarks (fun _ j => j == l) 0 s.tmap := rfl
  rw [State.share_dropEarmarks, ht]
  by_cases hk : k = l
  · subst hk; simp [countEarmarks_erase_all (fun _ j => j == k) k (by simp)]
  · rw [countEarmarks_erase_other (fun _ j => j == l) k (by simp [hk])]
    simpa [hk] using h k

theorem State.Tallied.lapseEarmarks {s : State} (h : s.Tallied) (n : Nat) (l : LaneId) (c : Nat) :
    (s.lapseEarmarks n l c).Tallied := by
  intro k
  rw [State.share_lapseEarmarks]
  by_cases hk : k = l
  · subst hk
    have hle : countEarmarks k (s.lapseEarmarks n k c).tmap ≤ countEarmarks k s.tmap :=
      countEarmarks_erase_le _ k s.tmap 0
    have := h k
    simp only [if_pos]
    omega
  · have : countEarmarks k (s.lapseEarmarks n l c).tmap = countEarmarks k s.tmap :=
      countEarmarks_erase_other _ k (by simp [hk]) s.tmap 0
    simpa [hk, this] using h k

end Sys2Proof.Machine
end

