-- ==== Sys2Proof/Laws/Frames.lean ====
section
/-! SUPPORT. What the work of one lane can touch: the lane itself, its pacing, the trays of its claims and flights,
its own earmarks and their count. Every operation of a Lane Sequencer keeps the rest. -/

namespace Sys2Proof.Machine

/-- What the work of lane `l` leaves: the other blocks and lanes, the links, the size of the map, the rotation, every
share but that lane's outstanding count, and every earmark of another lane; no earmark appears, and the outstanding
counts go on following the map. -/
structure OnlyLane (l : LaneId) (s t : State) : Prop where
  loop : LoopKept s t
  links : t.links = s.links
  others : OtherLanesKept l s t
  size : t.tmap.length = s.tmap.length
  rotation : t.eal.rotation = s.eal.rotation
  position : t.eal.position = s.eal.position
  shares : ∀ k, k ≠ l → t.share k = s.share k
  quota : (t.share l).reload = (s.share l).reload ∧ (t.share l).counter = (s.share l).counter
  earmarked : ∀ x k, k ≠ l → s.tray x = .free (some k) → t.tray x = .free (some k)
  unmarked : ∀ x k, (t.tray x).earmark = some k → (s.tray x).earmark = some k
  tallied : s.Tallied → t.Tallied

theorem LoopKept.refl (s : State) : LoopKept s s := ⟨rfl, rfl, rfl, rfl, rfl, rfl⟩

theorem LoopKept.trans {s t u : State} (a : LoopKept s t) (b : LoopKept t u) : LoopKept s u :=
  ⟨b.ltk.trans a.ltk, b.csm.trans a.csm, b.pst.trans a.pst, b.lines.trans a.lines, b.micros.trans a.micros,
   b.pending.trans a.pending⟩

theorem OtherLanesKept.refl (l : LaneId) (s : State) : OtherLanesKept l s s := ⟨fun _ _ => rfl, fun _ _ => rfl⟩

theorem OtherLanesKept.trans {l : LaneId} {s t u : State} (a : OtherLanesKept l s t) (b : OtherLanesKept l t u) :
    OtherLanesKept l s u :=
  ⟨fun k h => (b.lanes k h).trans (a.lanes k h), fun k h => (b.pace k h).trans (a.pace k h)⟩

namespace OnlyLane

theorem refl (l : LaneId) (s : State) : OnlyLane l s s :=
  ⟨.refl s, rfl, .refl l s, rfl, rfl, rfl, fun _ _ => rfl, ⟨rfl, rfl⟩, fun _ _ _ h => h, fun _ _ h => h, fun h => h⟩

theorem trans {l : LaneId} {s t u : State} (a : OnlyLane l s t) (b : OnlyLane l t u) : OnlyLane l s u where
  loop := a.loop.trans b.loop
  links := b.links.trans a.links
  others := a.others.trans b.others
  size := b.size.trans a.size
  rotation := b.rotation.trans a.rotation
  position := b.position.trans a.position
  shares k h := (b.shares k h).trans (a.shares k h)
  quota := ⟨b.quota.1.trans a.quota.1, b.quota.2.trans a.quota.2⟩
  earmarked x k h e := b.earmarked x k h (a.earmarked x k h e)
  unmarked x k e := a.unmarked x k (b.unmarked x k e)
  tallied h := b.tallied (a.tallied h)

/-- A step that changes the lane and its pacing alone. -/
theorem ofLane {l : LaneId} {s t : State} (lanes : ∀ k, k ≠ l → t.lane k = s.lane k)
    (pace : ∀ k, k ≠ l → t.paceOf k = s.paceOf k)
    (h : t = { s with lanes := t.lanes, pace := t.pace }) : OnlyLane l s t := by
  have htray : ∀ x, t.tray x = s.tray x := fun x => by rw [h]; rfl
  have hshare : ∀ k, t.share k = s.share k := fun k => by rw [h]; rfl
  have hmap : t.tmap = s.tmap := by rw [h]
  have heal : t.eal = s.eal := by rw [h]
  refine ⟨⟨?_, ?_, ?_, ?_, ?_, ?_⟩, ?_, ⟨lanes, pace⟩, ?_, ?_, ?_, fun k _ => hshare k, by simp [hshare],
    fun x k _ e => (htray x).trans e, fun x k e => by rwa [htray x] at e, fun hs k => ?_⟩
  case refine_11 => rw [hshare, hmap]; exact hs k
  all_goals rw [h]

theorem setLane (s : State) (l : LaneId) (ln : Lane) : OnlyLane l s (s.setLane l ln) :=
  ofLane (fun _ h => s.lane_setLane_ne h ln) (fun _ _ => rfl) rfl

theorem modLane (s : State) (l : LaneId) (f : Lane → Lane) : OnlyLane l s (s.modLane l f) := setLane s l _

theorem modify {l : LaneId} (ch : Change) (f : State → State) (h : OnlyLane l ch.st (f ch.st)) :
    OnlyLane l ch.st (ch.modify f).st := h

theorem modifyLane (ch : Change) (l : LaneId) (f : Lane → Lane) :
    OnlyLane l ch.st (ch.modify (fun s => s.modLane l f)).st := modLane ch.st l f

theorem post {l : LaneId} {s : State} {ch : Change} (n : Notice) (h : OnlyLane l s ch.st) :
    OnlyLane l s (ch.post n).st := h

theorem modPace (s : State) (l : LaneId) (f : Pace → Pace) : OnlyLane l s (s.modPace l f) :=
  ofLane (fun _ _ => rfl) (fun k h => by simp [State.paceOf_modPace, h]) rfl

/-- Writing an entry that carries no earmark over one that carries none, or one of lane `l`. -/
theorem putTray (s : State) (l : LaneId) (t : Nat) (e : Tray) (he : e.earmark = none)
    (h : ∀ k, (s.tray t).earmark = some k → k = l) : OnlyLane l s (s.putTray t e) where
  loop := by constructor <;> simp
  links := by simp
  others := ⟨fun _ _ => by simp, fun _ _ => by simp⟩
  size := by simp
  rotation := by simp
  position := by simp
  shares k hk := by
    have hs : (s.putTray t e).share k
        = ((s.lowerOutstanding (s.tray t).earmark).raiseOutstanding e.earmark).share k := rfl
    rw [hs, he]
    cases ha : (s.tray t).earmark with
    | none => rfl
    | some a =>
      have := h a ha
      subst this
      simp [State.raiseOutstanding, State.lowerOutstanding, State.share_modShare, hk]
  quota := s.quota_putTray t e l
  earmarked x k hk hx := by
    rw [State.tray_putTray]
    split
    · rename_i hc
      obtain ⟨rfl, -⟩ := hc
      exact absurd (h k (by simp [hx, Tray.earmark])) hk
    · exact hx
  unmarked x k hx := by
    rw [State.tray_putTray] at hx
    split at hx
    · simp [he] at hx
    · exact hx
  tallied hs := hs.putTray t e (.inr he)

theorem dropEarmarks (s : State) (l : LaneId) : OnlyLane l s (s.dropEarmarks l) where
  loop := by constructor <;> simp
  links := by simp
  others := ⟨fun _ _ => by simp, fun _ _ => by simp⟩
  size := by simp
  rotation := rfl
  position := rfl
  shares k hk := by simp [State.share_dropEarmarks, hk]
  quota := by simp [State.share_dropEarmarks]
  earmarked x k hk hx := by simp [State.tray_dropEarmarks, hx, hk]
  unmarked x k hx := by
    rw [State.tray_dropEarmarks] at hx
    split at hx
    · simp [Tray.earmark] at hx
    · exact hx
  tallied hs := hs.dropEarmarks l

theorem lapseEarmarks (s : State) (n : Nat) (l : LaneId) (c : Nat) : OnlyLane l s (s.lapseEarmarks n l c) where
  loop := by constructor <;> simp
  links := by simp
  others := ⟨fun _ _ => by simp, fun _ _ => by simp⟩
  size := by simp
  rotation := rfl
  position := rfl
  shares k hk := by simp [State.share_lapseEarmarks, hk]
  quota := by simp [State.share_lapseEarmarks]
  earmarked x k hk hx := by simp [State.tray_lapseEarmarks, hx, hk]
  unmarked x k hx := by
    rw [State.tray_lapseEarmarks] at hx
    split at hx
    · simp [Tray.earmark] at hx
    · exact hx
  tallied hs := hs.lapseEarmarks n l c

theorem foldl {α : Type} {l : LaneId} (f : State → α → State) (h : ∀ s a, OnlyLane l s (f s a)) (xs : List α)
    (s : State) : OnlyLane l s (xs.foldl f s) := by
  induction xs generalizing s with
  | nil => exact refl l s
  | cons a as ih => exact (h s a).trans (ih (f s a))

/-! ### Pacing, and the change of lane state -/

theorem adopt (s : State) (l : LaneId) : OnlyLane l s (s.adopt l) := (modPace s l _).trans (setLane _ l _)

theorem showCue (s : State) (l : LaneId) (was : Option Cue) : OnlyLane l s (s.showCue l was) := by
  unfold State.showCue
  split
  · exact modPace s l _
  · split
    · exact refl l s
    · exact modPace s l _

theorem enter (s : State) (l : LaneId) (final : LaneState) : OnlyLane l s (s.enter l final) := by
  unfold State.enter
  refine trans ?_ (showCue _ l _)
  split
  · refine trans ?_ (modPace _ l _)
    split
    · refine trans ?_ (adopt _ l)
      split
      · exact (modLane s l _).trans (dropEarmarks _ l)
      · exact modLane s l _
    · split
      · exact (modLane s l _).trans (dropEarmarks _ l)
      · exact modLane s l _
  · split
    · refine trans ?_ (adopt _ l)
      split
      · exact (modLane s l _).trans (dropEarmarks _ l)
      · exact modLane s l _
    · split
      · exact (modLane s l _).trans (dropEarmarks _ l)
      · exact modLane s l _

theorem toStateNaming (ch : Change) (l : LaneId) (target : LaneState) (pre : LaneState → List Notice)
    (trays : List Nat) (removed : Option Ticket) :
    OnlyLane l ch.st (ch.toStateNaming l target pre trays removed).st := (setLane _ l _).trans (enter _ l _)

theorem toState (ch : Change) (l : LaneId) (target : LaneState) (pre : LaneState → List Notice) :
    OnlyLane l ch.st (ch.toState l target pre).st := toStateNaming ch l target pre [] none

theorem beatFalls (s : State) (l : LaneId) : OnlyLane l s (s.beatFalls l) := by
  unfold State.beatFalls
  dsimp only
  split
  · exact (modPace s l _).trans (modLane _ l _)
  · exact modPace s l _

theorem countPitch (s : State) (l : LaneId) (carried : LoopState) : OnlyLane l s (s.countPitch l carried) := by
  unfold State.countPitch
  split
  · dsimp only
    split
    · exact beatFalls s l
    · exact modPace s l _
  · exact refl l s

theorem placement (s : State) (l : LaneId) : OnlyLane l s (s.placement l) := by
  unfold State.placement
  dsimp only
  split
  · split
    · exact modPace s l _
    · exact modLane s l _
  · exact refl l s

/-! ### Trays of claims and flights -/

theorem freeReserved (s : State) (l : LaneId) (t : Nat) : OnlyLane l s (s.freeReserved t) := by
  unfold State.freeReserved
  split
  · rename_i h p d heq
    exact putTray s l t _ (by simp only [Tray.freed]; split <;> rfl) (by simp [heq, Tray.earmark])
  · exact refl l s

theorem launchTray (load : LaneLoad) (s : State) (l : LaneId) (t : Nat) : OnlyLane l s (s.launchTray load t) := by
  unfold State.launchTray
  split
  · rename_i heq; exact putTray s l t _ rfl (by simp [heq, Tray.earmark])
  · exact refl l s

theorem loadTray (s : State) (l : LaneId) (t : Nat) : OnlyLane l s (s.loadTray t) := by
  unfold State.loadTray
  split
  · rename_i heq; exact putTray s l t _ rfl (by simp [heq, Tray.earmark])
  · exact refl l s

theorem unverifyLaunched (s : State) (l : LaneId) (t : Nat) : OnlyLane l s (s.unverifyLaunched t) := by
  unfold State.unverifyLaunched
  split
  · rename_i heq; exact putTray s l t _ rfl (by simp [heq, Tray.earmark])
  · exact refl l s

theorem earmark_of_claimable {l : LaneId} {e : Tray} (h : e.claimableFor l = true) :
    ∀ k, e.earmark = some k → k = l := by
  intro k hk
  cases e with
  | free a =>
    cases a with
    | none => simp [Tray.earmark] at hk
    | some a =>
      simp only [Tray.earmark, Option.some.injEq] at hk
      simp only [Tray.claimableFor, beq_iff_eq] at h
      exact hk ▸ h
  | _ => simp [Tray.earmark] at hk

/-- R29: a claim on trays that are claimable for the lane. -/
theorem reserve (s : State) (l : LaneId) (t : Nat) (partner : Option Nat)
    (h : ∀ x ∈ t :: partner.toList, (s.tray x).claimableFor l = true) : OnlyLane l s (s.reserve l t partner) := by
  have ht := earmark_of_claimable (h t (by simp))
  cases partner with
  | none => exact putTray s l t _ rfl ht
  | some t' =>
    refine (putTray s l t _ rfl ht).trans (putTray _ l t' _ rfl ?_)
    intro k hk
    rw [State.tray_putTray] at hk
    split at hk
    · simp [Tray.earmark] at hk
    · exact earmark_of_claimable (h t' (by simp)) k hk

theorem releaseClaim (ch : Change) (l : LaneId) (reason : ReleaseReason) (target : LaneState) :
    OnlyLane l ch.st (ch.releaseClaim l reason target).st := by
  unfold Change.releaseClaim
  split
  · exact refl l _
  · exact trans (modify ch _ (foldl State.freeReserved (fun s t => freeReserved s l t) _ ch.st)) (toState _ l target _)

theorem revoked (ch : Change) (l : LaneId) (reason : ReleaseReason) :
    OnlyLane l ch.st (ch.revoked l reason).st := by
  unfold Change.revoked
  split
  · exact refl l _
  · exact toState _ l _ _

theorem endUnverified (ch : Change) (l : LaneId) (k : LaneId) (reason : UnverifiedReason) (e : InFlight) :
    OnlyLane l ch.st (ch.endUnverified k reason e).st :=
  foldl State.unverifyLaunched (fun s t => unverifyLaunched s l t) _ ch.st

theorem resolveFlights (ch : Change) (l : LaneId) (reason : UnverifiedReason) :
    OnlyLane l ch.st (Change.resolveFlights reason ch l).st := by
  unfold Change.resolveFlights
  refine trans ?_ (modifyLane _ l _)
  generalize (ch.st.lane l).inflight = es
  induction es generalizing ch with
  | nil => exact refl l _
  | cons e es ih => exact (endUnverified ch l l reason e).trans (ih _)

theorem land (ch : Change) (l : LaneId) (e : InFlight) : OnlyLane l ch.st (ch.land l e).st := by
  unfold Change.land
  split
  · exact foldl State.loadTray (fun s t => loadTray s l t) _ ch.st
  · exact endUnverified ch l l _ e

theorem landBehind (nc q : Nat) (l : LaneId) (es : List InFlight) (ch : Change) :
    OnlyLane l ch.st (Change.landBehind nc q l es ch).st := by
  induction es generalizing ch with
  | nil => unfold Change.landBehind; exact modifyLane ch l _
  | cons e es ih =>
    unfold Change.landBehind
    split
    · exact (land ch l e).trans (ih _)
    · exact modifyLane ch l _

theorem mergePassage (ch : Change) (nc q : Nat) (l : LaneId) : OnlyLane l ch.st (ch.mergePassage nc q l).st := by
  unfold Change.mergePassage
  split
  · exact refl l _
  · split
    · exact (land ch l _).trans (landBehind nc q l _ _)
    · exact refl l _

/-! ### The Lane Sequencer -/

theorem holdClear (ch : Change) (l : LaneId) : OnlyLane l ch.st (ch.holdClear l).st := by
  unfold Change.holdClear
  split
  · exact trans (modifyLane ch l _) (toState _ l _ _)
  · exact refl l _

theorem launch (ch : Change) (l : LaneId) (x : Solution) (load : LaneLoad) (entry : InFlight) (n : Notice) :
    OnlyLane l ch.st ((ch.modify (fun s =>
      (x.trays.foldl (State.launchTray load) s).modLane l (Lane.fired · entry))).post n).st :=
  trans (foldl (State.launchTray load) (fun s t => launchTray load s l t) x.trays ch.st)
    (modLane (x.trays.foldl (State.launchTray load) ch.st) l (Lane.fired · entry))

theorem fire (ch : Change) (l : LaneId) : OnlyLane l ch.st (ch.fire l).st := by
  unfold Change.fire
  dsimp only
  split
  · split
    · exact trans (launch ch l _ _ _ _) (toState _ l _ _)
    · exact trans (trans (launch ch l _ _ _ _) (toState _ l _ _)) (holdClear _ l)
  · exact refl l _

theorem jam (ch : Change) (l : LaneId) : OnlyLane l ch.st (ch.jam l).st := by
  unfold Change.jam
  dsimp only
  split
  · split
    · split
      · exact trans (modifyLane ch l _) (toState _ l _ _)
      · refine trans ?_ (toStateNaming _ l _ _ _ _)
        refine trans ?_ (endUnverified _ l l _ _)
        exact trans (modifyLane ch l _) (modifyLane _ l _)
    · exact trans (modifyLane ch l _) (toState _ l _ _)
  · exact refl l _

theorem handReach (s : State) (g : Geometry) (l : LaneId) (q period : Nat) (span : Span) (length : Nat) :
    OnlyLane l s (s.handReach g l q period span length) := lapseEarmarks s g.n l _

theorem offerClaim (ch : Change) (g : Geometry) (l : LaneId) (q : Nat) (span : Span) (lead : Nat) :
    OnlyLane l ch.st (ch.offerClaim g l q span lead).st := by
  unfold Change.offerClaim
  dsimp only
  split
  · rename_i h
    refine trans (modify ch _ (reserve ch.st l _ _ ?_)) (toState _ l _ _)
    exact fun x hx => List.all_eq_true.mp h.2 x hx
  · exact refl l _

theorem setMark (ch : Change) (l : LaneId) (mark : Bool) : OnlyLane l ch.st (ch.setMark l mark).st :=
  modifyLane ch l _

theorem waitingLead (ch : Change) (g : Geometry) (l : LaneId) (lead : Nat) :
    OnlyLane l ch.st (ch.waitingLead g l lead).st := by
  unfold Change.waitingLead
  split
  · exact setMark ch l _
  · split
    · exact refl l _
    · exact setMark ch l _

theorem waitingPitch (ch : Change) (g : Geometry) (l : LaneId) (ev : PitchEvent) (period : Nat) :
    OnlyLane l ch.st (ch.waitingPitch g l ev period).st := by
  unfold Change.waitingPitch
  dsimp only
  split
  · exact refl l _
  · split
    · exact trans (trans (waitingLead ch g l _) (modify _ _ (handReach _ g l _ _ _ _))) (offerClaim _ g l _ _ _)
    · exact trans (waitingLead ch g l _) (modify _ _ (handReach _ g l _ _ _ _))

theorem missed (ch : Change) (l : LaneId) : OnlyLane l ch.st (ch.missed l).st :=
  trans (modifyLane ch l _) (releaseClaim _ l _ _)

theorem onVerdict (ch : Change) (g : Geometry) (l : LaneId) (x : Solution) :
    OnlyLane l ch.st (ch.onVerdict g l x).st := by
  unfold Change.onVerdict
  split
  · exact missed ch l
  · exact toState ch l _ _
  · split
    · exact trans (toState ch l _ _) (fire _ l)
    · exact toState ch l _ _

theorem trackingPitch (ch : Change) (g : Geometry) (l : LaneId) (x : Solution) (ev : PitchEvent) (period : Nat) :
    OnlyLane l ch.st (ch.trackingPitch g l x ev period).st := by
  unfold Change.trackingPitch
  dsimp only
  split
  · exact refl l _
  · split
    · exact trans (trans (modify ch _ (handReach _ g l _ _ _ _)) (setMark _ l _)) (releaseClaim _ l _ _)
    · exact trans (trans (modify ch _ (handReach _ g l _ _ _ _)) (setMark _ l _)) (onVerdict _ g l _)

theorem lanePitch (ch : Change) (g : Geometry) (ev : PitchEvent) (l : LaneId) :
    OnlyLane l ch.st (ch.lanePitch g ev l).st := by
  unfold Change.lanePitch
  split
  · exact refl l _
  · split
    · exact modify ch _ (handReach _ g l _ _ _ _)
    · exact modify ch _ (handReach _ g l _ _ _ _)
    · exact waitingPitch ch g l ev _
    · exact trackingPitch ch g l _ ev _
    · split
      · exact refl l _
      · exact modify ch _ (handReach _ g l _ _ _ _)
    · exact refl l _
    · exact refl l _
    · exact refl l _

theorem lanePassage (ch : Change) (g : Geometry) (q : Nat) (l : LaneId) :
    OnlyLane l ch.st (ch.lanePassage g q l).st := by
  unfold Change.lanePassage
  dsimp only
  refine trans ?_ (mergePassage _ g.nc q l)
  split
  · split
    · exact fire ch l
    · exact refl l _
  · exact refl l _

theorem pauseLane (ch : Change) (reason : ReleaseReason) (l : LaneId) :
    OnlyLane l ch.st (ch.pauseLane reason l).st := by
  unfold Change.pauseLane
  split
  · exact toState ch l _ _
  · exact toState ch l _ _
  · exact releaseClaim ch l _ _
  · exact modifyLane ch l _
  · exact modifyLane ch l _
  · exact refl l _
  · exact refl l _
  · exact refl l _

/-! ### Eyes and requests -/

theorem overfill (ch : Change) (l : LaneId) : OnlyLane l ch.st (ch.overfill l).st := by
  unfold Change.overfill
  dsimp only
  split
  · exact trans (modifyLane ch l _) (toState _ l _ _)
  · exact trans (modifyLane ch l _) (toState _ l _ _)
  · exact trans (modifyLane ch l _) (toState _ l _ _)
  · exact trans (modifyLane ch l _) (modifyLane _ l _)
  · exact trans (modifyLane ch l _) (modifyLane _ l _)
  · exact trans (modifyLane ch l _) (modifyLane _ l _)
  · exact modifyLane ch l _
  · exact refl l _

theorem glitch (ch : Change) (l : LaneId) (ticket : Option Ticket) : OnlyLane l ch.st (ch.glitch l ticket).st := by
  unfold Change.glitch
  dsimp only
  split
  · exact modifyLane ch l _
  · exact post _ (modifyLane ch l _)

theorem takeBlock (ch : Change) (l : LaneId) : OnlyLane l ch.st (ch.takeBlock l).st :=
  trans (modify ch _ (setLane _ l _)) (toState _ l _ _)

theorem arm (ch : Change) (l : LaneId) : OnlyLane l ch.st (ch.arm l).st := by
  unfold Change.arm
  dsimp only
  split
  · exact trans (modify ch _ (setLane _ l _)) (toState _ l _ _)
  · exact toState ch l _ _

theorem changeMode (s : State) (l : LaneId) (mode : LaneMode) : OnlyLane l s (s.changeMode l mode) := by
  unfold State.changeMode
  split
  · exact refl l s
  · split
    · exact (((enter s l _).trans (modLane _ l _)).trans (modPace _ l _)).trans (showCue _ l _)
    · split
      · exact (modLane s l _).trans (enter _ l _)
      · exact ((modLane s l _).trans (modPace _ l _)).trans (showCue _ l _)

theorem profileChanged (s : State) (l : LaneId) : OnlyLane l s (s.profileChanged l) := by
  unfold State.profileChanged
  split
  · exact adopt s l
  · exact modLane s l _

end OnlyLane

end Sys2Proof.Machine
end

