-- ==== Sys2Proof/Laws/Lanes.lean ====
section
/-! SUPPORT. What a change of lane state does (R97): the substitutions, and everything the entry brings. -/

namespace Sys2Proof.Machine

/-! ### The lane after an entry -/

/-- R97, R88, R154: the lane after its entry into `final`. -/
def Lane.entered (new : Profile) (final : LaneState) (ln : Lane) : Lane :=
  { ln with
    state := final
    leadMark := ln.leadMark && !final.clearsMark
    copy := if adopts ln.state final then new else ln.copy
    adoptPending := ln.adoptPending && !adopts ln.state final }

theorem State.enter_lane (s : State) (l : LaneId) (final : LaneState) :
    (s.enter l final).lane l = (s.lane l).entered (s.profile (s.lane l).profile) final := by
  have cue : ∀ (t : State) (was : Option Cue), (t.showCue l was).lane l = t.lane l := by
    intro t was
    unfold State.showCue
    split
    · rfl
    · split <;> rfl
  have pace : ∀ (b : Prop) [Decidable b] (t : State) (f : Pace → Pace),
      (if b then t.modPace l f else t).lane l = t.lane l := by
    intro b _ t f; split <;> rfl
  have drop : ∀ (b : Prop) [Decidable b] (t : State), (if b then t.dropEarmarks l else t).lane l = t.lane l
      ∧ (if b then t.dropEarmarks l else t).profile = t.profile := by
    intro b _ t; split <;> exact ⟨rfl, rfl⟩
  unfold State.enter
  dsimp only
  rw [cue, pace]
  split
  · rename_i ha
    unfold State.adopt
    dsimp only
    rw [State.lane_setLane_self, (drop _ _).1, (drop _ _).2]
    simp [Lane.entered, ha]
  · rename_i ha
    rw [(drop _ _).1]
    simp [Lane.entered, ha]

/-- R133: an entry to PAUSED, FAULTED or ABSENT drops the lane's earmarks; any other leaves the map. -/
theorem State.enter_map (s : State) (l : LaneId) (final : LaneState) :
    (s.enter l final).tmap = (if final.dropsEarmarks then s.dropEarmarks l else s).tmap
      ∧ (s.enter l final).eal = (if final.dropsEarmarks then s.dropEarmarks l else s).eal := by
  have cue : ∀ (t : State) (was : Option Cue), (t.showCue l was).tmap = t.tmap ∧ (t.showCue l was).eal = t.eal := by
    intro t was
    unfold State.showCue
    split
    · exact ⟨rfl, rfl⟩
    · split <;> exact ⟨rfl, rfl⟩
  unfold State.enter
  dsimp only
  rw [(cue _ _).1, (cue _ _).2]
  split <;> split <;> split <;> exact ⟨rfl, rfl⟩

theorem State.enter_tray (s : State) (l : LaneId) (final : LaneState) (x : Nat) :
    (s.enter l final).tray x =
      if final.dropsEarmarks = true ∧ s.tray x = .free (some l) then .free none else s.tray x := by
  have h : (s.enter l final).tray x = (if final.dropsEarmarks then s.dropEarmarks l else s).tray x := by
    simp only [State.tray, (s.enter_map l final).1]
  rw [h]
  by_cases hd : final.dropsEarmarks = true
  · simp [hd, State.tray_dropEarmarks]
  · simp [hd]

theorem State.enter_share (s : State) (l : LaneId) (final : LaneState) :
    (s.enter l final).share l =
      if final.dropsEarmarks then { s.share l with outstanding := 0 } else s.share l := by
  have h : (s.enter l final).share l = (if final.dropsEarmarks then s.dropEarmarks l else s).share l := by
    simp only [State.share, (s.enter_map l final).2]
  rw [h]
  by_cases hd : final.dropsEarmarks = true
  · simp [hd, State.share_dropEarmarks]
  · simp [hd]

/-- R139, R143, R146: the lane's pacing after its entry: what an adoption makes of it, the start of the pace where a
MANUAL lane leaves PAUSED, and the cue. -/
theorem State.enter_pace (s : State) (l : LaneId) (final : LaneState) :
    ∃ p, p = (let a := if adopts (s.lane l).state final
                then Pace.adopt (s.lane l).copy (s.profile (s.lane l).profile) (s.paceOf l) else s.paceOf l
              if (s.lane l).mode = .manual ∧ (s.lane l).state = .paused ∧ final ≠ .paused then a.start else a)
      ∧ (s.enter l final).paceOf l =
        match Machine.cueRow s.ltk.loop { s.lane l with state := final } with
        | some c => p.showing c s.micros
        | none =>
          match Machine.cueRow s.ltk.loop (s.lane l) with
          | none => p
          | some _ => p.showing .wait s.micros := by
  refine ⟨_, rfl, ?_⟩
  have drop : ∀ (b : Prop) [Decidable b] (t : State), (if b then t.dropEarmarks l else t).paceOf l = t.paceOf l
      ∧ (if b then t.dropEarmarks l else t).lane l = t.lane l ∧ (if b then t.dropEarmarks l else t).ltk = t.ltk
      ∧ (if b then t.dropEarmarks l else t).micros = t.micros
      ∧ (if b then t.dropEarmarks l else t).profile = t.profile := by
    intro b _ t; split <;> exact ⟨rfl, rfl, rfl, rfl, rfl⟩
  -- the state before the cue is shown
  generalize hu : (let before := s.lane l
    let s1 := s.modLane l (fun ln => { ln with state := final, leadMark := ln.leadMark && !final.clearsMark })
    let s2 := if final.dropsEarmarks then s1.dropEarmarks l else s1
    let s3 := if adopts before.state final then s2.adopt l else s2
    if before.mode = .manual ∧ before.state = .paused ∧ final ≠ .paused then s3.modPace l Pace.start else s3) = u
  have hs : s.enter l final = u.showCue l (s.cueRow l) := by rw [← hu]; rfl
  have hkey : u.paceOf l = (let a := if adopts (s.lane l).state final
                then Pace.adopt (s.lane l).copy (s.profile (s.lane l).profile) (s.paceOf l) else s.paceOf l
              if (s.lane l).mode = .manual ∧ (s.lane l).state = .paused ∧ final ≠ .paused then a.start else a)
      ∧ (u.lane l).mode = (s.lane l).mode ∧ (u.lane l).state = final ∧ u.ltk = s.ltk ∧ u.micros = s.micros := by
    rw [← hu]
    dsimp only
    by_cases hp : (s.lane l).mode = .manual ∧ (s.lane l).state = .paused ∧ final ≠ .paused
    · rw [if_pos hp, if_pos hp]
      by_cases ha : adopts (s.lane l).state final = true
      · simp only [ha, if_true]
        refine ⟨?_, ?_, ?_, ?_, ?_⟩
        · simp [State.adopt, drop]
        · simp [State.adopt, drop]
        · simp [State.adopt, drop]
        · simp [State.adopt, drop]
        · simp [State.adopt, drop]
      · simp only [ha]
        refine ⟨?_, ?_, ?_, ?_, ?_⟩ <;> simp [drop]
    · rw [if_neg hp, if_neg hp]
      by_cases ha : adopts (s.lane l).state final = true
      · simp only [ha, if_true]
        refine ⟨?_, ?_, ?_, ?_, ?_⟩ <;> simp [State.adopt, drop]
      · simp only [ha]
        refine ⟨?_, ?_, ?_, ?_, ?_⟩ <;> simp [drop]
  obtain ⟨h1, h2, h3, h4, h5⟩ := hkey
  have hrow : u.cueRow l = Machine.cueRow s.ltk.loop { s.lane l with state := final } := by
    simp [State.cueRow, Machine.cueRow, h2, h3, h4]
  rw [hs, ← h1]
  unfold State.showCue
  rw [hrow]
  have hrow' : Machine.cueRow s.ltk.loop (s.lane l) = s.cueRow l := rfl
  rw [hrow']
  cases Machine.cueRow s.ltk.loop { s.lane l with state := final } with
  | some c => simp [h5]
  | none =>
    cases s.cueRow l with
    | none => rfl
    | some c => simp [h5]

/-! ### The substitutions -/

/-- R97: a change towards WAITING, from any lane. -/
theorem Lane.settle_waiting (ln : Lane) (blocked : Bool) :
    ln.settle blocked .waiting =
      if ln.overfillDue then ({ ln with overfillDue := false, pausePending := false }, .faulted .overfill)
      else if ln.pausePending then ({ ln with pausePending := false }, .paused)
      else if ln.rejectAtHold then (ln, .faulted .tooLong) else (ln, .waiting) := by
  cases h1 : ln.overfillDue <;> cases h2 : ln.pausePending <;> cases h3 : ln.rejectAtHold <;>
    simp [Lane.settle, Lane.settleOverfill, Lane.settlePause, Lane.settleHold, Lane.settleReject, h1, h2, h3]

/-- R97: a change towards PAUSED. -/
theorem Lane.settle_paused (ln : Lane) (blocked : Bool) :
    ln.settle blocked .paused =
      if ln.overfillDue then ({ ln with overfillDue := false, pausePending := false }, .faulted .overfill)
      else (ln, .paused) := by
  cases h1 : ln.overfillDue <;>
    simp [Lane.settle, Lane.settleOverfill, Lane.settlePause, Lane.settleHold, Lane.settleReject, h1]

/-- R97: a change towards IDLE. -/
theorem Lane.settle_idle (ln : Lane) (blocked : Bool) :
    ln.settle blocked .idle =
      if ln.overfillDue then ({ ln with overfillDue := false, pausePending := false }, .faulted .overfill)
      else if ln.pausePending then ({ ln with pausePending := false }, .paused)
      else if blocked then ln.takeHold.1.settleReject ln.takeHold.2 else (ln, .idle) := by
  cases h1 : ln.overfillDue <;> cases h2 : ln.pausePending <;> cases h3 : blocked <;>
    simp [Lane.settle, Lane.settleOverfill, Lane.settlePause, Lane.settleHold, Lane.settleReject, h1, h2]

/-- R97: a change towards any other state is not substituted. -/
theorem Lane.settle_other (ln : Lane) (blocked : Bool) (target : LaneState) (h : target ≠ .idle)
    (h' : target ≠ .waiting) (h'' : target ≠ .paused) : ln.settle blocked target = (ln, target) := by
  simp [Lane.settle, Lane.settleOverfill, Lane.settlePause, Lane.settleHold, Lane.settleReject, h, h', h'']

/-- R97, R107, R108: where a change towards WAITING ends. -/
theorem Lane.settle_endsWaiting (ln : Lane) (blocked : Bool) : ln.EndsWaiting (ln.settle blocked .waiting).2 := by
  have hr : ln.rejectAtHold = true ↔ ln.headRejected := by
    unfold Lane.rejectAtHold Lane.headRejected
    constructor
    · split
      · rename_i p rest h; intro hd; exact ⟨p, rest, h, by simpa using hd⟩
      · simp
    · rintro ⟨p, rest, h, hd⟩; simp [h, hd]
  rw [ln.settle_waiting]
  refine ⟨fun h => by simp [h], fun h1 h2 => by simp [h1, h2], fun h1 h2 h3 => by simp [h1, h2, hr.mpr h3],
    fun h1 h2 h3 => ?_⟩
  have : ln.rejectAtHold = false := by
    cases hc : ln.rejectAtHold with
    | false => rfl
    | true => exact absurd (hr.mp hc) h3
  simp [h1, h2, this]

/-- R78, R97: where a change towards PAUSED ends. -/
theorem Lane.settle_endsPaused (ln : Lane) (blocked : Bool) : ln.EndsPaused (ln.settle blocked .paused).2 := by
  rw [ln.settle_paused]
  exact ⟨fun h => by simp [h], fun h => by simp [h]⟩

/-- The substitutions touch a lane's two flags and, on taking a blocked hold eye, its head's phase; nothing else. -/
theorem Lane.settle_keeps (ln : Lane) (blocked : Bool) (target : LaneState) :
    ∃ due pausing records, (ln.settle blocked target).1
      = { ln with overfillDue := due, pausePending := pausing, records := records } ∧ records.length = ln.records.length := by
  have hold : ∀ ln : Lane, ∃ records, ln.takeHold.1 = { ln with records := records } ∧ records.length = ln.records.length := by
    intro ln
    unfold Lane.takeHold
    split
    · rename_i p rest h; exact ⟨_, rfl, by simp [h]⟩
    · exact ⟨_, rfl, rfl⟩
    · exact ⟨_, rfl, rfl⟩
    · exact ⟨_, rfl, rfl⟩
  by_cases h1 : target = .idle
  · subst h1
    rw [ln.settle_idle]
    split
    · exact ⟨_, _, _, rfl, rfl⟩
    · split
      · exact ⟨_, _, _, rfl, rfl⟩
      · split
        · obtain ⟨r, hr, hl⟩ := hold ln
          refine ⟨ln.overfillDue, ln.pausePending, r, ?_, hl⟩
          unfold Lane.settleReject
          split <;> rw [hr]
        · exact ⟨_, _, _, rfl, rfl⟩
  · by_cases h2 : target = .waiting
    · subst h2
      rw [ln.settle_waiting]
      split
      · exact ⟨_, _, _, rfl, rfl⟩
      · split
        · exact ⟨_, _, _, rfl, rfl⟩
        · split <;> exact ⟨_, _, _, rfl, rfl⟩
    · by_cases h3 : target = .paused
      · subst h3
        rw [ln.settle_paused]
        split <;> exact ⟨_, _, _, rfl, rfl⟩
      · rw [ln.settle_other blocked target h1 h2 h3]
        exact ⟨_, _, _, rfl, rfl⟩

/-! ### A change of lane state as a whole -/

/-- R97: the lane after a change towards `target`. -/
theorem Change.lane_toStateNaming (ch : Change) (l : LaneId) (target : LaneState) (pre : LaneState → List Notice)
    (trays : List Nat) (removed : Option Ticket) :
    (ch.toStateNaming l target pre trays removed).st.lane l =
      (((ch.st.lane l).settle (ch.st.holdBlocked l) target).1).entered
        (ch.st.profile (((ch.st.lane l).settle (ch.st.holdBlocked l) target).1).profile)
        ((ch.st.lane l).settle (ch.st.holdBlocked l) target).2 := by
  show ((ch.st.setLane l _).enter l _).lane l = _
  rw [State.enter_lane, State.lane_setLane_self]
  rfl

theorem Change.lane_toState (ch : Change) (l : LaneId) (target : LaneState) (pre : LaneState → List Notice) :
    (ch.toState l target pre).st.lane l =
      (((ch.st.lane l).settle (ch.st.holdBlocked l) target).1).entered
        (ch.st.profile (((ch.st.lane l).settle (ch.st.holdBlocked l) target).1).profile)
        ((ch.st.lane l).settle (ch.st.holdBlocked l) target).2 := ch.lane_toStateNaming l target pre [] none

theorem Change.tray_toStateNaming (ch : Change) (l : LaneId) (target : LaneState) (pre : LaneState → List Notice)
    (trays : List Nat) (removed : Option Ticket) (x : Nat) :
    (ch.toStateNaming l target pre trays removed).st.tray x =
      if ((ch.st.lane l).settle (ch.st.holdBlocked l) target).2.dropsEarmarks = true ∧ ch.st.tray x = .free (some l)
      then .free none else ch.st.tray x := State.enter_tray _ l _ x

theorem Change.tray_toState (ch : Change) (l : LaneId) (target : LaneState) (pre : LaneState → List Notice) (x : Nat) :
    (ch.toState l target pre).st.tray x =
      if ((ch.st.lane l).settle (ch.st.holdBlocked l) target).2.dropsEarmarks = true ∧ ch.st.tray x = .free (some l)
      then .free none else ch.st.tray x := ch.tray_toStateNaming l target pre [] none x

end Sys2Proof.Machine
end

