-- ==== Sys2Proof/Laws/Links.lean ====
section
/-! SUPPORT. What posting notices does to the links, which links hear a notice, and how a request is taken: admitted,
refused or discarded. -/

namespace Sys2Proof.Machine

/-! ### Notices -/

theorem Change.finish_eq (ch : Change) : ch.finish = ch.st.posting ch.out := rfl

/-- Posting changes the links alone. -/
theorem State.posting_eq (s : State) (ns : List Notice) :
    s.posting ns = { s with links := (s.posting ns).links } := by
  induction ns generalizing s with
  | nil => rfl
  | cons n ns ih => exact (ih (s.post n)).trans rfl

@[simp] theorem State.posting_nil (s : State) : s.posting [] = s := rfl
@[simp] theorem State.posting_cons (s : State) (n : Notice) (ns : List Notice) :
    s.posting (n :: ns) = (s.post n).posting ns := rfl
theorem State.posting_append (s : State) (ns ns' : List Notice) :
    s.posting (ns ++ ns') = (s.posting ns).posting ns' := by simp [State.posting, List.foldl_append]

@[simp] theorem State.posting_ltk (s : State) (ns : List Notice) : (s.posting ns).ltk = s.ltk := by
  rw [s.posting_eq ns]
@[simp] theorem State.posting_tmap (s : State) (ns : List Notice) : (s.posting ns).tmap = s.tmap := by
  rw [s.posting_eq ns]
@[simp] theorem State.posting_csm (s : State) (ns : List Notice) : (s.posting ns).csm = s.csm := by
  rw [s.posting_eq ns]
@[simp] theorem State.posting_eal (s : State) (ns : List Notice) : (s.posting ns).eal = s.eal := by
  rw [s.posting_eq ns]
@[simp] theorem State.posting_lanes (s : State) (ns : List Notice) : (s.posting ns).lanes = s.lanes := by
  rw [s.posting_eq ns]
@[simp] theorem State.posting_pace (s : State) (ns : List Notice) : (s.posting ns).pace = s.pace := by
  rw [s.posting_eq ns]
@[simp] theorem State.posting_pst (s : State) (ns : List Notice) : (s.posting ns).pst = s.pst := by
  rw [s.posting_eq ns]
@[simp] theorem State.posting_lines (s : State) (ns : List Notice) : (s.posting ns).lines = s.lines := by
  rw [s.posting_eq ns]
@[simp] theorem State.posting_micros (s : State) (ns : List Notice) : (s.posting ns).micros = s.micros := by
  rw [s.posting_eq ns]
@[simp] theorem State.posting_pending (s : State) (ns : List Notice) : (s.posting ns).pending = s.pending := by
  rw [s.posting_eq ns]
@[simp] theorem State.posting_lane (s : State) (ns : List Notice) (l : LaneId) :
    (s.posting ns).lane l = s.lane l := by simp [State.lane]
@[simp] theorem State.posting_paceOf (s : State) (ns : List Notice) (l : LaneId) :
    (s.posting ns).paceOf l = s.paceOf l := by simp [State.paceOf]
@[simp] theorem State.posting_share (s : State) (ns : List Notice) (l : LaneId) :
    (s.posting ns).share l = s.share l := by simp [State.share]
@[simp] theorem State.posting_tray (s : State) (ns : List Notice) (x : Nat) :
    (s.posting ns).tray x = s.tray x := by simp [State.tray]
@[simp] theorem State.posting_profile (s : State) (ns : List Notice) (i : ProfileId) :
    (s.posting ns).profile i = s.profile i := by simp [State.profile]

/-- R172: what one offered notice makes of a link: nothing else of it changes. -/
theorem Link.post_cases (n : Notice) (k : Link) :
    (k.queue.length < 32 ∧ k.post n = { k with queue := k.queue ++ [.notice n] })
      ∨ (32 ≤ k.queue.length ∧ k.post n = { k with overflow := true }) := by
  by_cases h : k.queue.length < 32
  · exact .inl ⟨h, by simp [Link.post, Config.noticePlaces, h]⟩
  · exact .inr ⟨Nat.le_of_not_lt h, by simp [Link.post, Config.noticePlaces, h]⟩

/-- R172, R174: posting leaves each link's roles, timer, receiver and counters, and adds notices to its queue. -/
theorem LinksKeptButNotices.refl (s : State) : LinksKeptButNotices s s :=
  ⟨fun _ => ⟨rfl, rfl, rfl⟩, fun _ => ⟨rfl, rfl, rfl, rfl⟩, fun _ => ⟨[], by simp⟩⟩

theorem LinksKeptButNotices.trans {s t u : State} (a : LinksKeptButNotices s t) (b : LinksKeptButNotices t u) :
    LinksKeptButNotices s u where
  roles k := ⟨(b.roles k).1.trans (a.roles k).1, (b.roles k).2.1.trans (a.roles k).2.1,
    (b.roles k).2.2.trans (a.roles k).2.2⟩
  receiving k := ⟨(b.receiving k).1.trans (a.receiving k).1, (b.receiving k).2.1.trans (a.receiving k).2.1,
    (b.receiving k).2.2.1.trans (a.receiving k).2.2.1, (b.receiving k).2.2.2.trans (a.receiving k).2.2.2⟩
  queue k := by
    obtain ⟨ns, h⟩ := a.queue k
    obtain ⟨ns', h'⟩ := b.queue k
    exact ⟨ns ++ ns', by simp [h', h]⟩

theorem LinksKeptButNotices.ofLinks {s t : State} (h : t.links = s.links) : LinksKeptButNotices s t := by
  have hk : ∀ k, t.link k = s.link k := fun k => by simp [State.link, h]
  exact ⟨fun k => by simp [hk], fun k => by simp [hk], fun k => ⟨[], by simp [hk]⟩⟩

theorem LinksKeptButNotices.post (s : State) (n : Notice) : LinksKeptButNotices s (s.post n) := by
  have hk : ∀ k, ((s.post n).link k = s.link k)
      ∨ ((s.post n).link k = { s.link k with queue := (s.link k).queue ++ [.notice n] })
      ∨ ((s.post n).link k = { s.link k with overflow := true }) := by
    intro k
    rw [State.link_post]
    split
    · rcases Link.post_cases n (s.link k) with ⟨-, h⟩ | ⟨-, h⟩
      · exact .inr (.inl h)
      · exact .inr (.inr h)
    · exact .inl rfl
  refine ⟨fun k => ?_, fun k => ?_, fun k => ?_⟩
  · rcases hk k with h | h | h <;> simp [h]
  · rcases hk k with h | h | h <;> simp [h]
  · rcases hk k with h | h | h
    · exact ⟨[], by simp [h]⟩
    · exact ⟨[n], by simp [h]⟩
    · exact ⟨[], by simp [h]⟩

theorem LinksKeptButNotices.posting (s : State) (ns : List Notice) : LinksKeptButNotices s (s.posting ns) := by
  induction ns generalizing s with
  | nil => exact .refl s
  | cons n ns ih => exact (LinksKeptButNotices.post s n).trans (ih _)

/-! ### Requests (R163 to R165) -/

@[simp] theorem State.heard_link (s : State) (m : Moment) (k j : LinkId) :
    (s.heard m k).link j
      = if j = k then { s.link k with live := (s.link k).live.map (fun _ => m.reading) } else s.link j := by
  simp [State.heard, State.link_modLink]

@[simp] theorem State.heard_queue (s : State) (m : Moment) (k j : LinkId) :
    ((s.heard m k).link j).queue = (s.link j).queue := by
  rw [State.heard_link]; split <;> simp_all

@[simp] theorem State.heard_planner (s : State) (m : Moment) (k j : LinkId) :
    ((s.heard m k).link j).planner = (s.link j).planner := by
  rw [State.heard_link]; split <;> simp_all

@[simp] theorem State.heard_discharge (s : State) (m : Moment) (k j : LinkId) :
    ((s.heard m k).link j).discharge = (s.link j).discharge := by
  rw [State.heard_link]; split <;> simp_all

@[simp] theorem State.heard_window (s : State) (m : Moment) (k j : LinkId) :
    ((s.heard m k).link j).window = (s.link j).window := by
  rw [State.heard_link]; split <;> simp_all

@[simp] theorem State.heard_ltk (s : State) (m : Moment) (k : LinkId) : (s.heard m k).ltk = s.ltk := rfl
@[simp] theorem State.heard_tmap (s : State) (m : Moment) (k : LinkId) : (s.heard m k).tmap = s.tmap := rfl
@[simp] theorem State.heard_csm (s : State) (m : Moment) (k : LinkId) : (s.heard m k).csm = s.csm := rfl
@[simp] theorem State.heard_eal (s : State) (m : Moment) (k : LinkId) : (s.heard m k).eal = s.eal := rfl
@[simp] theorem State.heard_lanes (s : State) (m : Moment) (k : LinkId) : (s.heard m k).lanes = (s.clock m).lanes := rfl
@[simp] theorem State.heard_lane (s : State) (m : Moment) (k : LinkId) (l : LaneId) :
    (s.heard m k).lane l = (s.clock m).lane l := rfl
@[simp] theorem State.heard_pace (s : State) (m : Moment) (k : LinkId) : (s.heard m k).pace = s.pace := rfl
@[simp] theorem State.heard_paceOf (s : State) (m : Moment) (k : LinkId) (l : LaneId) :
    (s.heard m k).paceOf l = s.paceOf l := rfl
@[simp] theorem State.heard_share (s : State) (m : Moment) (k : LinkId) (l : LaneId) :
    (s.heard m k).share l = s.share l := rfl
@[simp] theorem State.heard_tray (s : State) (m : Moment) (k : LinkId) (x : Nat) : (s.heard m k).tray x = s.tray x := rfl
@[simp] theorem State.heard_pst (s : State) (m : Moment) (k : LinkId) : (s.heard m k).pst = s.pst := rfl
@[simp] theorem State.heard_profile (s : State) (m : Moment) (k : LinkId) (i : ProfileId) :
    (s.heard m k).profile i = s.profile i := rfl
@[simp] theorem State.heard_lines (s : State) (m : Moment) (k : LinkId) : (s.heard m k).lines = s.lines := rfl
@[simp] theorem State.heard_holdBlocked (s : State) (m : Moment) (k : LinkId) (l : LaneId) :
    (s.heard m k).holdBlocked l = s.holdBlocked l := rfl
@[simp] theorem State.heard_micros (s : State) (m : Moment) (k : LinkId) : (s.heard m k).micros = m.reading := rfl
@[simp] theorem State.heard_pending (s : State) (m : Moment) (k : LinkId) : (s.heard m k).pending = s.pending := rfl

/-- R164: a change's reply joins first, and its notices behind it. -/
theorem Change.answer_eq (ch : Change) (k : LinkId) (kind tag : Byte) (r : Reply) :
    ch.answer k kind tag r = (ch.st.replied k kind tag r).posting ch.out := rfl

theorem State.refuse_eq (s : State) (k : LinkId) (kind tag : Byte) (reason : RefuseReason) :
    s.refuse k kind tag reason = s.replied k kind tag (refusal reason) := rfl

theorem State.takeIn_of_room {s : State} {m : Moment} {k : LinkId} (h : s.hasRoom k) (rest : State → State) :
    s.takeIn m k rest = rest (s.heard m k) := by
  have h' : ((s.heard m k).link k).queue.length < Config.queuePlaces := by simpa [Config.queuePlaces, State.hasRoom] using h
  exact if_pos h'

/-- R164 step 1: a request that finds 40 frames in the queue is discarded and counted. -/
theorem State.takeIn_full {s : State} {m : Moment} {k : LinkId} (h : ¬ s.hasRoom k) (rest : State → State) :
    s.takeIn m k rest
      = (s.heard m k).modLink k (fun x => { x with overruns := min (x.overruns + 1) 65535 }) := by
  have h' : ¬ ((s.heard m k).link k).queue.length < Config.queuePlaces := by simpa [Config.queuePlaces, State.hasRoom] using h
  exact if_neg h'

/-- The gate's answer is the same before and after the live timer is restarted. -/
theorem State.gate_heard (s : State) (m : Moment) (k : LinkId) (kind : RequestKind) (ok : Bool) (lane : Option Byte) :
    ((s.heard m k).link k).gate kind ok lane = (s.link k).gate kind ok lane := by
  simp only [State.heard_link, if_pos]
  cases kind <;> rfl

/-- R164 step 7: a request that the gate lets through is its owner's. -/
theorem State.request_admitted {s : State} {m : Moment} {k : LinkId} {tag : Byte} {kind : RequestKind}
    {lane : Option Byte} {owner : State → Reply × Change} (h : s.hasRoom k)
    (hg : (s.link k).gate kind true lane = none) :
    s.request m k tag kind lane owner
      = ((owner (s.heard m k)).2.st.replied k kind.code tag (owner (s.heard m k)).1).posting
          (owner (s.heard m k)).2.out := by
  rw [State.request, State.takeIn_of_room h]
  simp only [State.gate_heard, hg]
  rfl

/-- R164 steps 3 to 6: a request that the gate stops is refused. -/
theorem State.request_refused {s : State} {m : Moment} {k : LinkId} {tag : Byte} {kind : RequestKind}
    {lane : Option Byte} {owner : State → Reply × Change} {reason : RefuseReason} (h : s.hasRoom k)
    (hg : (s.link k).gate kind true lane = some reason) :
    s.request m k tag kind lane owner = (s.heard m k).replied k kind.code tag (refusal reason) := by
  rw [State.request, State.takeIn_of_room h]
  simp only [State.gate_heard, hg]
  rfl

theorem State.request_full {s : State} {m : Moment} {k : LinkId} {tag : Byte} {kind : RequestKind}
    {lane : Option Byte} {owner : State → Reply × Change} (h : ¬ s.hasRoom k) :
    s.request m k tag kind lane owner
      = (s.heard m k).modLink k (fun x => { x with overruns := min (x.overruns + 1) 65535 }) := by
  rw [State.request, State.takeIn_full h]

/-- R165: the link holds no role. -/
theorem Link.bound_iff (s : State) (k : LinkId) : (s.link k).bound = false ↔ s.unbound k := by
  simp [Link.bound, State.unbound, and_assoc]

/-- A request that a planner's link sends, other than one that names a lane of a window. -/
theorem State.gate_planner {s : State} {k : LinkId} {kind : RequestKind} (h : (s.link k).planner = true)
    (ha : (s.link k).admits kind = true) : (s.link k).gate kind true none = none := by
  have hb : (s.link k).bound = true := by simp [Link.bound, h]
  simp [Link.gate, hb, ha, Link.outOfWindow]

theorem State.gate_discharge {s : State} {k : LinkId} {kind : RequestKind} (h : (s.link k).discharge = true)
    (ha : (s.link k).admits kind = true) : (s.link k).gate kind true none = none := by
  have hb : (s.link k).bound = true := by simp [Link.bound, h]
  simp [Link.gate, hb, ha, Link.outOfWindow]

@[simp] theorem laneOf_laneByte (l : LaneId) : laneOf (laneByte l) = some l := by revert l; decide

theorem Link.holds_iff (s : State) (k : LinkId) (l : LaneId) : (s.link k).holds l = true ↔ s.holdsLane k l := by
  simp only [Link.holds, State.holdsLane]
  cases (s.link k).window <;> simp

/-- R165, R174: a link hears a notice by its audience exactly where the table of R174 has it hear the notice. -/
theorem Link.hears_iff (s : State) (k : LinkId) (n : Notice) :
    (s.link k).hears n.audience = true ↔ s.hears k n := by
  cases n <;>
    simp [Link.hears, Notice.audience, Audience.both, Audience.window, State.hears, State.masters, State.unbound,
      ← Link.holds_iff, Option.isSome_iff_ne_none, or_comm] <;>
    cases (s.link k).planner <;> cases (s.link k).discharge <;> simp

/-- R164 step 6: a lane request for a lane of the window is admitted. -/
theorem State.gate_lane {s : State} {k : LinkId} {kind : RequestKind} {l : LaneId} (h : s.holdsLane k l)
    (ha : (s.link k).window.isSome = true → (s.link k).admits kind = true) :
    (s.link k).gate kind true (some (laneByte l)) = none := by
  have hw : (s.link k).window.isSome = true := by
    obtain ⟨w, hw, -⟩ := h
    simp [hw]
  have hb : (s.link k).bound = true := by simp [Link.bound, hw]
  have hh : (s.link k).holdsNumber (laneByte l) = true := by simp [Link.holdsNumber, (Link.holds_iff s k l).mpr h]
  simp [Link.gate, hb, ha hw, Link.outOfWindow, hh]

/-! ### Notices that a change posts -/

theorem State.hears_of_roles {s t : State} (h : LinksKeptButNotices s t) (k : LinkId) (n : Notice) :
    t.hears k n ↔ s.hears k n := by
  obtain ⟨hp, hd, hw⟩ := h.roles k
  cases n <;> simp [State.hears, State.masters, State.unbound, State.holdsLane, hp, hd, hw]

/-- R172, R174: each of the notices posted joins the queue of every link that hears it and has room. -/
theorem State.posting_tells (s : State) {ns : List Notice} {n : Notice} (hn : n ∈ ns) : s.tells (s.posting ns) n := by
  induction ns generalizing s with
  | nil => cases hn
  | cons m ms ih =>
    intro k hk hroom
    rw [State.posting_cons] at hroom ⊢
    have hpost := LinksKeptButNotices.post s m
    obtain ⟨first, hf⟩ := hpost.queue k
    obtain ⟨later, hl⟩ := (LinksKeptButNotices.posting (s.post m) ms).queue k
    have hlen : (s.link k).queue.length < 32 := by
      rw [hl, hf] at hroom; simp only [List.length_append] at hroom; omega
    rcases List.mem_cons.1 hn with rfl | hn
    · have hh := (Link.hears_iff s k n).2 hk
      rw [hl, State.link_post, if_pos hh]
      rcases Link.post_cases n (s.link k) with ⟨-, e⟩ | ⟨h, -⟩
      · rw [e]; simp
      · omega
    · have := ih (s.post m) hn k ((State.hears_of_roles hpost k n).2 hk) hroom
      rw [hl, List.drop_left] at this
      rw [hl, hf, List.append_assoc, List.drop_left]
      exact List.mem_append_right _ this

/-- R172, R174: a change that leaves the links to its notices tells each of them. -/
theorem Change.finish_tells {s : State} {ch : Change} (h : ch.st.links = s.links) {n : Notice} (hn : n ∈ ch.out) :
    s.tells ch.finish n := by
  have hk : ∀ k, ch.st.link k = s.link k := fun k => by simp [State.link, h]
  intro k hear hroom
  have := ch.st.posting_tells hn k ((State.hears_of_roles (.ofLinks h) k n).2 hear) hroom
  rwa [hk] at this

end Sys2Proof.Machine
end

