-- ==== Sys2Proof/Laws/Loop.lean ====
section
/-! SUPPORT. What the operations that go over all lanes do (cues, automatic intervals, stored profiles, claims and
flights of every lane), what a change of loop state does, and how a count and a home pulse come to the tracker. -/

namespace Sys2Proof.Machine

/-! ### A count and a pulse on their way (R1, R49) -/

/-- R1: taking the check eye's levels in turn leaves the last of them that has held, or the level before. -/
theorem actedLevel_eq (last : Bool) (eye : List EyeLevel) :
    actedLevel last eye
      = match (eye.filter (fun e => 50 ≤ e.held)).getLast? with
        | none => last
        | some e => e.occupied := by
  induction eye generalizing last with
  | nil => rfl
  | cons e es ih =>
    have hc : actedLevel last (e :: es) = actedLevel (if 50 ≤ e.held then e.occupied else last) es := rfl
    rw [hc, ih]
    by_cases h : 50 ≤ e.held
    · simp only [h, if_true, List.filter_cons, decide_true, List.getLast?_cons]
      cases (es.filter (fun e => decide (50 ≤ e.held))).getLast? <;> rfl
    · simp [h]

/-- R1, R49: a count or a pulse leaves the check eye at its state there, and touches nothing else on the way. -/
theorem State.takeEye_eq (s : State) (eye : List EyeLevel) :
    s.takeEye eye = { s with lines := { s.lines with checkEye := s.eyeAfter eye } } := by
  simp only [State.takeEye, actedLevel_eq]; rfl

/-- R1, R2: a count whose level has held is the tracker's; another only lets time pass. -/
theorem exec_encoderCount (m : Moment) (held : Nat) (eye : List EyeLevel) (s : State) :
    exec (.encoderCount m held eye) s
      = .next (if 5 ≤ held then (s.eyed m (s.eyeAfter eye)).encoderCount m else s.eyed m (s.eyeAfter eye)) := by
  simp only [exec, execEncoderCount, State.takeEye_eq]; rfl

/-- R1, R11: a pulse whose level has held is the tracker's; another only lets time pass. -/
theorem exec_homePulse (m : Moment) (held : Nat) (eye : List EyeLevel) (s : State) :
    exec (.homePulse m held eye) s
      = .next (if 50 ≤ held then (s.eyed m (s.eyeAfter eye)).homePulse m else s.eyed m (s.eyeAfter eye)) := by
  simp only [exec, execHomePulse, State.takeEye_eq]; rfl

/-- R2: a count that brings no pitch event, in a loop that is not STOPPED, is the count by itself. -/
theorem State.arrived_eq_counted {s : State} {g : Geometry} (hp : s.nextQ g % g.c ≠ 0) (hl : s.ltk.loop ≠ .stopped)
    (m : Moment) (occupied : Bool) : s.arrived g m occupied = s.counted g m occupied := by
  simp [State.arrived, State.counted, hp, hl]

/-- R2, R9: a count brings the loop's counts, time and lines to the same place whether or not a pitch event falls. -/
theorem State.arrived_fields (s : State) (g : Geometry) (m : Moment) (occupied : Bool) :
    (s.arrived g m occupied).tmap = s.tmap ∧ (s.arrived g m occupied).eal = s.eal
      ∧ (s.arrived g m occupied).csm = s.csm ∧ (s.arrived g m occupied).lanes = (s.clock m).lanes
      ∧ (s.arrived g m occupied).pace = s.pace ∧ (s.arrived g m occupied).pst = s.pst
      ∧ (s.arrived g m occupied).lines = { s.lines with checkEye := occupied }
      ∧ (s.arrived g m occupied).micros = m.reading ∧ LinksKeptButNotices s (s.arrived g m occupied) := by
  refine ⟨?_, ?_, ?_, ?_, ?_, ?_, ?_, ?_, ?_⟩
  case refine_9 =>
    have h : ∀ u : State, ∀ ns, u.links = s.links → LinksKeptButNotices s (u.posting ns) := fun u ns e =>
      (LinksKeptButNotices.ofLinks e).trans (.posting u ns)
    exact h _ _ rfl
  all_goals simp [State.arrived, State.counted, State.eyed]

/-! ### Going over the lanes -/

/-- A pass over a list of lanes that changes at each lane that lane's pacing alone, by a rule `f` that reads nothing
the pass changes, leaves at each lane of the list what `f` makes of its pacing, and every other lane's as it was. -/
theorem foldl_pace {f : LaneId → Pace → Pace} {step : State → LaneId → State}
    (ls : List LaneId) (nodup : ls.Nodup) (inv : State → Prop)
    (hstep : ∀ s l, inv s → step s l = s.modPace l (f l)) (keep : ∀ s l, inv s → inv (s.modPace l (f l)))
    (s : State) (h : inv s) :
    ls.foldl step s = { s with pace := (ls.foldl step s).pace }
      ∧ ∀ l, (ls.foldl step s).paceOf l = if l ∈ ls then f l (s.paceOf l) else s.paceOf l := by
  induction ls generalizing s with
  | nil => exact ⟨rfl, fun l => by simp⟩
  | cons a as ih =>
    have hn := List.nodup_cons.mp nodup
    obtain ⟨h1, h2⟩ := ih hn.2 (s.modPace a (f a)) (keep s a h)
    simp only [List.foldl_cons, hstep s a h]
    refine ⟨h1.trans rfl, fun l => ?_⟩
    rw [h2 l]
    by_cases hl : l = a
    · subst hl; simp [hn.1]
    · simp [hl, State.paceOf_modPace]

/-- R139: what a change of loop state makes of a lane's pacing. -/
def Pace.shown (loop was : LoopState) (ln : Lane) (now : Micros) (p : Pace) : Pace :=
  match Machine.cueRow loop ln with
  | some c => p.showing c now
  | none =>
    match Machine.cueRow was ln with
    | none => p
    | some _ => p.showing .wait now

theorem State.modPace_self (s : State) (l : LaneId) : s.modPace l (fun p => p) = s := by
  simp [State.modPace, State.paceOf]

/-- R139: after a change of loop state every lane's cue is shown, and nothing but the cues changes. -/
theorem State.showCues_spec (s : State) (was : LoopState) :
    s.showCues was = { s with pace := (s.showCues was).pace }
      ∧ ∀ l, (s.showCues was).paceOf l = Pace.shown s.ltk.loop was (s.lane l) s.micros (s.paceOf l) := by
  have key := foldl_pace (f := fun l => Pace.shown s.ltk.loop was (s.lane l) s.micros)
    (step := fun s l => s.showCue l (Machine.cueRow was (s.lane l))) allLanes allLanes_nodup
    (fun t => t.ltk = s.ltk ∧ t.lanes = s.lanes ∧ t.micros = s.micros)
    (fun t l ht => by
      have hl : t.lane l = s.lane l := by simp [State.lane, ht.2.1]
      unfold State.showCue Pace.shown
      simp only [State.cueRow, ht.1, ht.2.2, hl]
      split
      · rename_i h; simp [h]
      · rename_i h
        split
        · rename_i h'; simp [h, h', State.modPace_self]
        · rename_i h'; simp [h, h'])
    (fun t l ht => ht) s ⟨rfl, rfl, rfl⟩
  exact ⟨key.1, fun l => (key.2 l).trans (if_pos (mem_allLanes l))⟩

/-- R147: the automatic intervals are recomputed, each from the state before any of them, and nothing else
changes. -/
theorem State.recomputePace_spec (s : State) (n : Nat) :
    s.recomputePace n = { s with pace := (s.recomputePace n).pace }
      ∧ ∀ l, (s.recomputePace n).paceOf l =
        if (s.lane l).mode ≠ .absent ∧ (s.lane l).copy.mode = .auto
        then { s.paceOf l with pending := s.paceInterval n l } else s.paceOf l := by
  have key := foldl_pace
    (f := fun l p => if (s.lane l).mode ≠ .absent ∧ (s.lane l).copy.mode = .auto
      then { p with pending := s.paceInterval n l } else p)
    (step := fun s l =>
      if (s.lane l).mode ≠ .absent ∧ (s.lane l).copy.mode = .auto then
        s.modPace l (fun p => { p with pending := s.paceInterval n l }) else s) allLanes allLanes_nodup
    (fun t => t.lanes = s.lanes ∧ t.eal = s.eal ∧ t.csm = s.csm)
    (fun t l ht => by
      have hl : ∀ k, t.lane k = s.lane k := fun k => by simp [State.lane, ht.1]
      have hi : t.paceInterval n l = s.paceInterval n l := by
        simp [State.paceInterval, State.expectedTrays, State.paceWeights, State.share, hl, ht.2.1, ht.2.2]
      simp only [hl, hi]
      by_cases h : (s.lane l).mode ≠ .absent ∧ (s.lane l).copy.mode = .auto
      · rw [if_pos h]; simp [h]
      · rw [if_neg h]; simp [h, State.modPace_self])
    (fun t l ht => ht) s ⟨rfl, rfl, rfl⟩
  exact ⟨key.1, fun l => (key.2 l).trans (if_pos (mem_allLanes l))⟩

theorem State.recomputePace_fields (s : State) (n : Nat) :
    (s.recomputePace n).ltk = s.ltk ∧ (s.recomputePace n).tmap = s.tmap ∧ (s.recomputePace n).csm = s.csm
      ∧ (s.recomputePace n).eal = s.eal ∧ (s.recomputePace n).lanes = s.lanes ∧ (s.recomputePace n).pst = s.pst
      ∧ (s.recomputePace n).links = s.links ∧ (s.recomputePace n).lines = s.lines
      ∧ (s.recomputePace n).micros = s.micros ∧ (s.recomputePace n).pending = s.pending := by
  rw [(s.recomputePace_spec n).1]
  exact ⟨rfl, rfl, rfl, rfl, rfl, rfl, rfl, rfl, rfl, rfl⟩

/-- A pass over lanes each of which does the work of its own lane. -/
theorem foldl_only {f : State → LaneId → State} (h : ∀ s l, OnlyLane l s (f s l)) (P : State → Prop)
    (hP : ∀ s t l, OnlyLane l s t → P s → P t) (ls : List LaneId) (s : State) (hs : P s) : P (ls.foldl f s) := by
  induction ls generalizing s with
  | nil => exact hs
  | cons a as ih => exact ih _ (hP s _ a (h s a) hs)

theorem foldl_onlyChange {f : Change → LaneId → Change} (h : ∀ ch l, OnlyLane l ch.st (f ch l).st) (P : State → Prop)
    (hP : ∀ s t l, OnlyLane l s t → P s → P t) (ls : List LaneId) (ch : Change) (hs : P ch.st) :
    P (ls.foldl f ch).st := by
  induction ls generalizing ch with
  | nil => exact hs
  | cons a as ih => exact ih _ (hP ch.st _ a (h ch a) hs)

/-! ### Changes of loop state (R9, R10) -/

@[simp] theorem Change.goTo_out (ch : Change) (new : LoopState) (cause : StateCause) :
    (ch.goTo new cause).out = ch.out ++ [.state ch.st.ltk.loop new cause] := by
  simp only [Change.goTo, Change.post, Change.modify]

/-- R9, R139: the loop state changes, and the cues with it. -/
theorem Change.goTo_spec (ch : Change) (new : LoopState) (cause : StateCause) :
    (ch.goTo new cause).st
        = { ch.st with ltk := { ch.st.ltk with loop := new }, pace := (ch.goTo new cause).st.pace }
      ∧ ∀ l, (ch.goTo new cause).st.paceOf l
        = Pace.shown new ch.st.ltk.loop (ch.st.lane l) ch.st.micros (ch.st.paceOf l) := by
  have key := State.showCues_spec (ch.st.modLtk (fun k => { k with loop := new })) ch.st.ltk.loop
  simp only [Change.goTo, Change.post, Change.modify]
  exact ⟨key.1.trans rfl, key.2⟩

@[simp] theorem Change.goTo_ltk (ch : Change) (new : LoopState) (cause : StateCause) :
    (ch.goTo new cause).st.ltk = { ch.st.ltk with loop := new } := by rw [(ch.goTo_spec new cause).1]
@[simp] theorem Change.goTo_tmap (ch : Change) (new : LoopState) (cause : StateCause) :
    (ch.goTo new cause).st.tmap = ch.st.tmap := by rw [(ch.goTo_spec new cause).1]
@[simp] theorem Change.goTo_csm (ch : Change) (new : LoopState) (cause : StateCause) :
    (ch.goTo new cause).st.csm = ch.st.csm := by rw [(ch.goTo_spec new cause).1]
@[simp] theorem Change.goTo_eal (ch : Change) (new : LoopState) (cause : StateCause) :
    (ch.goTo new cause).st.eal = ch.st.eal := by rw [(ch.goTo_spec new cause).1]
@[simp] theorem Change.goTo_lanes (ch : Change) (new : LoopState) (cause : StateCause) :
    (ch.goTo new cause).st.lanes = ch.st.lanes := by rw [(ch.goTo_spec new cause).1]
@[simp] theorem Change.goTo_pst (ch : Change) (new : LoopState) (cause : StateCause) :
    (ch.goTo new cause).st.pst = ch.st.pst := by rw [(ch.goTo_spec new cause).1]
@[simp] theorem Change.goTo_links (ch : Change) (new : LoopState) (cause : StateCause) :
    (ch.goTo new cause).st.links = ch.st.links := by rw [(ch.goTo_spec new cause).1]
@[simp] theorem Change.goTo_lines (ch : Change) (new : LoopState) (cause : StateCause) :
    (ch.goTo new cause).st.lines = ch.st.lines := by rw [(ch.goTo_spec new cause).1]
@[simp] theorem Change.goTo_micros (ch : Change) (new : LoopState) (cause : StateCause) :
    (ch.goTo new cause).st.micros = ch.st.micros := by rw [(ch.goTo_spec new cause).1]
@[simp] theorem Change.goTo_pending (ch : Change) (new : LoopState) (cause : StateCause) :
    (ch.goTo new cause).st.pending = ch.st.pending := by rw [(ch.goTo_spec new cause).1]
@[simp] theorem Change.goTo_lane (ch : Change) (new : LoopState) (cause : StateCause) (l : LaneId) :
    (ch.goTo new cause).st.lane l = ch.st.lane l := by simp [State.lane]
@[simp] theorem Change.goTo_tray (ch : Change) (new : LoopState) (cause : StateCause) (x : Nat) :
    (ch.goTo new cause).st.tray x = ch.st.tray x := by simp [State.tray]
@[simp] theorem Change.goTo_share (ch : Change) (new : LoopState) (cause : StateCause) (l : LaneId) :
    (ch.goTo new cause).st.share l = ch.st.share l := by simp [State.share]

/-! ### The revolution event (R20) -/

/-- R20: what a revolution event changes: the number, the tallies, the counters of the quotas, the launches of the
revolution, and the automatic pending intervals; and the one notice it posts. -/
theorem Change.revolutionEvent_spec (ch : Change) (g : Geometry) :
    (ch.revolutionEvent g).st.ltk = { ch.st.ltk with revolution := ch.st.ltk.revolution + 1 }
      ∧ (ch.revolutionEvent g).st.csm = { fRev := 0, fPrev := ch.st.csm.fRev }
      ∧ (ch.revolutionEvent g).st.eal
          = { ch.st.eal with shares := ch.st.eal.shares.map (fun sh => { sh with counter := sh.reload }) }
      ∧ (ch.revolutionEvent g).st.lanes = ch.st.lanes.map (fun ln => { ln with launchesRev := 0 })
      ∧ (ch.revolutionEvent g).st.tmap = ch.st.tmap ∧ (ch.revolutionEvent g).st.pst = ch.st.pst
      ∧ (ch.revolutionEvent g).st.links = ch.st.links ∧ (ch.revolutionEvent g).st.lines = ch.st.lines
      ∧ (ch.revolutionEvent g).st.micros = ch.st.micros ∧ (ch.revolutionEvent g).st.pending = ch.st.pending
      ∧ (∀ l, (ch.revolutionEvent g).st.paceOf l =
          if (ch.st.lane l).mode ≠ .absent ∧ (ch.st.lane l).copy.mode = .auto
          then { ch.st.paceOf l with
            pending := State.paceInterval { ch.st with csm := { fRev := 0, fPrev := ch.st.csm.fRev } } g.n l }
          else ch.st.paceOf l)
      ∧ ∃ r, (ch.revolutionEvent g).out = ch.out ++ [.revolution r] := by
  simp only [Change.revolutionEvent, Change.post, Change.modify]
  have hf := State.recomputePace_fields
    { ch.st.modLtk (fun k => { k with revolution := k.revolution + 1 }) with
      csm := { fRev := 0, fPrev := ch.st.csm.fRev } } g.n
  have hp := (State.recomputePace_spec
    { ch.st.modLtk (fun k => { k with revolution := k.revolution + 1 }) with
      csm := { fRev := 0, fPrev := ch.st.csm.fRev } } g.n).2
  generalize State.recomputePace _ g.n = s at hf hp
  obtain ⟨h1, h2, h3, h4, h5, h6, h7, h8, h9, h10⟩ := hf
  refine ⟨h1, h3, ?_, ?_, h2, h6, h7, h8, h9, h10, fun l => hp l, ⟨_, rfl⟩⟩
  · simp only [State.reloadQuotas, h4]; rfl
  · rw [h5]; rfl

/-! ### Stored profiles (R150) -/

/-- R150, R156: a profile is stored; each lane bound to it is told, and no other. -/
theorem State.storeProfile_spec (s : State) (i : ProfileId) (p : Profile) :
    (s.storeProfile i p).ltk = s.ltk ∧ (s.storeProfile i p).tmap = s.tmap ∧ (s.storeProfile i p).csm = s.csm
      ∧ (s.storeProfile i p).eal = s.eal
      ∧ (s.storeProfile i p).pst = { s.pst with profiles := s.pst.profiles.set i p }
      ∧ (s.storeProfile i p).links = s.links ∧ (s.storeProfile i p).lines = s.lines
      ∧ (s.storeProfile i p).micros = s.micros ∧ (s.storeProfile i p).pending = s.pending
      ∧ ∀ l, (s.storeProfile i p).lane l =
          (if (s.lane l).profile = i then
            if (s.lane l).state = .absent then { s.lane l with copy := p, adoptPending := false }
            else { s.lane l with adoptPending := true }
          else s.lane l)
        ∧ (s.storeProfile i p).paceOf l =
          (if (s.lane l).profile = i ∧ (s.lane l).state = .absent then Pace.adopt (s.lane l).copy p (s.paceOf l)
          else s.paceOf l) := by
  have key : ∀ (ls : List LaneId), ls.Nodup → ∀ u : State, u.pst.profiles.get i = p →
      let r := ls.foldl (fun s l => if (s.lane l).profile = i then s.profileChanged l else s) u
      r.ltk = u.ltk ∧ r.tmap = u.tmap ∧ r.csm = u.csm ∧ r.eal = u.eal ∧ r.pst = u.pst ∧ r.links = u.links
        ∧ r.lines = u.lines ∧ r.micros = u.micros ∧ r.pending = u.pending
        ∧ ∀ l, r.lane l =
            (if l ∈ ls ∧ (u.lane l).profile = i then
              if (u.lane l).state = .absent then { u.lane l with copy := p, adoptPending := false }
              else { u.lane l with adoptPending := true }
            else u.lane l)
          ∧ r.paceOf l =
            (if (l ∈ ls ∧ (u.lane l).profile = i) ∧ (u.lane l).state = .absent
            then Pace.adopt (u.lane l).copy p (u.paceOf l) else u.paceOf l) := by
    intro ls
    induction ls with
    | nil => intro _ u _; exact ⟨rfl, rfl, rfl, rfl, rfl, rfl, rfl, rfl, rfl, fun l => by simp⟩
    | cons a as ih =>
      intro hn u hu
      have hn' := List.nodup_cons.mp hn
      simp only [List.foldl_cons]
      by_cases hb : (u.lane a).profile = i
      · rw [if_pos hb]
        by_cases hab : (u.lane a).state = .absent
        · have hpc : u.profileChanged a = (u.modPace a (Pace.adopt (u.lane a).copy p)).setLane a
              { u.lane a with copy := p, adoptPending := false } := by
            unfold State.profileChanged State.adopt
            have : u.profile (u.lane a).profile = p := by rw [hb]; exact hu
            simp [hab, this]
          rw [hpc]
          obtain ⟨h1, h2, h3, h4, h5, h6, h7, h8, h9, h10⟩ := ih hn'.2
            ((u.modPace a (Pace.adopt (u.lane a).copy p)).setLane a
              { u.lane a with copy := p, adoptPending := false }) hu
          refine ⟨h1, h2, h3, h4, h5, h6, h7, h8, h9, fun l => ?_⟩
          rw [(h10 l).1, (h10 l).2]
          by_cases hl : l = a
          · subst hl; simp [hn'.1, hb, hab]
          · simp [hl, State.lane_setLane, State.paceOf_modPace]
        · have hpc : u.profileChanged a = u.modLane a (fun ln => { ln with adoptPending := true }) := by
            simp [State.profileChanged, hab]
          rw [hpc]
          obtain ⟨h1, h2, h3, h4, h5, h6, h7, h8, h9, h10⟩ := ih hn'.2
            (u.modLane a (fun ln => { ln with adoptPending := true })) hu
          refine ⟨h1, h2, h3, h4, h5, h6, h7, h8, h9, fun l => ?_⟩
          rw [(h10 l).1, (h10 l).2]
          by_cases hl : l = a
          · subst hl; simp [hn'.1, hb, hab]
          · simp [hl, State.lane_modLane]
      · rw [if_neg hb]
        obtain ⟨h1, h2, h3, h4, h5, h6, h7, h8, h9, h10⟩ := ih hn'.2 u hu
        refine ⟨h1, h2, h3, h4, h5, h6, h7, h8, h9, fun l => ?_⟩
        rw [(h10 l).1, (h10 l).2]
        by_cases hl : l = a
        · subst hl; simp [hb]
        · simp [hl]
  have := key allLanes allLanes_nodup { s with pst := { s.pst with profiles := s.pst.profiles.set i p } } (by simp)
  simp only [mem_allLanes, true_and] at this
  exact this

end Sys2Proof.Machine
end

