-- ==== Sys2Proof/Tests/Slice0.lean ====
section
/-! SUPPORT. Small tests. The refusals of WellFormed; the worked cases of the spec's chapters; one step of each
command on a small state; and for each statement of the certificates with premises, a state and operands that meet
them, at the boundary of each clause's range. Expected values are the spec's own, or worked by hand from its rules. -/

open Sys2Proof Sys2Proof.Machine

namespace Sys2Proof.Tests

set_option Elab.async false

/-! ### States to test on -/

/-- A moment at a reading, with no order asked for. -/
def at_ (reading : Micros) : Moment := ⟨reading, []⟩

/-- The state a command leaves. -/
def after (c : Instr) (s : State) : State :=
  match exec c s with
  | .next t => t
  | .fault _ => s
  | .refused _ => s

/-- A small loop: 64 trays of 16 counts. Tray t is at the check station at Q = 16·t + 13. -/
def geo : Geometry :=
  { n := 64, c := 16, sChk := 5, merge := ⟨#v[100, 200, 200, 300, 5, 900, 1020, 500]⟩, u := 600, slipTol := 4,
    pSlow := 1000000, tStall := 500, recircLimit := 3 }

/-- The loop of chapters 3, 5 and 7: 400 trays of 200 counts. -/
def geo400 : Geometry :=
  { n := 400, c := 200, sChk := 1000, merge := ⟨#v[0, 0, 3700, 0, 0, 0, 1000, 0]⟩, u := 600, slipTol := 40,
    pSlow := 500000, tStall := 500, recircLimit := 3 }

/-- Every lane AUTO and PAUSED; every tray FREE; link 0 holds every role; the loop RUNNING at 320,000 µs a pitch, its
last pitch event at reading 0. -/
def onLoop (g : Geometry) : State :=
  { State.reset with
    ltk := { State.reset.ltk with
      loop := .running, q := 100, movement := true, lastPitch := some 0, history := [320000, 320000, 320000, 320000],
      stall := some 0 }
    tmap := List.replicate g.n (.free none)
    lanes := State.reset.lanes.map (fun ln => { ln with mode := .auto, state := .paused })
    pst := { State.reset.pst with geometry := some g }
    links := State.reset.links.set 0 { State.reset.link 0 with
      planner := true, discharge := true, window := some ⟨0, 7⟩, live := some 0 } }

/-- The small loop at rest in no lane. -/
def base : State := onLoop geo

/-- A state with one part of it replaced. -/
def withLane (s : State) (l : LaneId) (f : Lane → Lane) : State := s.modLane l f
def withLtk (s : State) (f : Ltk → Ltk) : State := s.modLtk f
def withTray (s : State) (t : Nat) (e : Tray) : State := { s with tmap := s.tmap.set t e }
def withEye (s : State) (l : LaneId) : State := { s with lines := { s.lines with lengthEye := s.lines.lengthEye.set l true } }
def withHold (s : State) (l : LaneId) : State := { s with lines := { s.lines with holdEye := s.lines.holdEye.set l true } }
def withLink (s : State) (k : LinkId) (f : Link → Link) : State := s.modLink k f
def withQueue (s : State) (k : LinkId) (n : Nat) : State :=
  s.modLink k (fun x => { x with queue := List.replicate n (.notice .markerMissing) })

/-- A parcel of one tray, and of two. -/
def small : Measured := { ticket := some 7, length := 451, disposition := .induct .one }
def long : Measured := { ticket := none, length := 1000, disposition := .induct .two }
def reject : Measured := { ticket := none, length := 1300, disposition := .reject }

/-- The check eye occupied, for as long as an input line must hold (R1). -/
def occupied : List EyeLevel := [⟨true, 50⟩]

/-! ### Well-formedness refuses what the lines and links cannot carry -/

theorem test_illformed_edges :
    (Instr.encoderCount (at_ 0) 4 []).WellFormed = false ∧ (Instr.homePulse (at_ 0) 49 []).WellFormed = false
    ∧ (Instr.lengthEyeLeadingEdge (at_ 0) 49 0).WellFormed = false
    ∧ (Instr.lengthEyeTrailingEdge (at_ 0) 49 0).WellFormed = false
    ∧ (Instr.holdEyeBlocked (at_ 0) 49 0).WellFormed = false ∧ (Instr.holdEyeCleared (at_ 0) 49 0).WellFormed = false
    ∧ (Instr.restartInput (at_ 0) 9999).WellFormed = false
    ∧ (Instr.restartInputFall (at_ 0) 49).WellFormed = false := by decide

theorem test_wellformed_edges :
    (Instr.encoderCount (at_ 0) 5 []).WellFormed = true ∧ (Instr.homePulse (at_ 0) 50 []).WellFormed = true
    ∧ (Instr.lengthEyeLeadingEdge (at_ 0) 50 0).WellFormed = true
    ∧ (Instr.restartInput (at_ 0) 10000).WellFormed = true := by decide

theorem test_illformed_payloads :
    (Instr.frameReceived (at_ 0) 0 1 0 (List.replicate 251 0) 0).WellFormed = false
    ∧ (Instr.ping (at_ 0) 0 0 (List.replicate 251 0)).WellFormed = false
    ∧ (Instr.setRotation (at_ 0) 0 0 0 (List.replicate 250 0)).WellFormed = false
    ∧ (Request.ping (List.replicate 251 0)).WellFormed = false := by decide +kernel

theorem test_wellformed_payloads :
    (Instr.frameReceived (at_ 0) 0 1 0 (List.replicate 250 0) 0).WellFormed = true
    ∧ (Instr.ping (at_ 0) 0 0 (List.replicate 250 0)).WellFormed = true
    ∧ (Instr.setRotation (at_ 0) 0 0 0 (List.replicate 249 0)).WellFormed = true := by decide +kernel

/-! ### Decoding -/

theorem test_decode_no_table_bits : decodeTableWord 8 1 = none ∧ base.withFetchWord 8 1 = base := ⟨rfl, rfl⟩

/-- Kinds and payloads written out from the dispatch table of R165 and the widths of R183. -/
theorem test_decode_requests :
    decodeRequest 0x01 [0xAA] = .request (.ping [0xAA]) ∧ decodeRequest 0x03 [2, 1, 3] = .request (.bind 2 1 3)
    ∧ decodeRequest 0x0E [3, 0x01, 0x02] = .request (.setQuota 3 258)
    ∧ decodeRequest 0x10 [0, 64, 1, 0] = .request (.disableTrays 64 256)
    ∧ decodeRequest 0x18 [1, 2] = .request (.discharged 258)
    ∧ decodeRequest 0x23 [5, 0, 1, 0, 0] = .request (.announce 5 65536)
    ∧ decodeRequest 0x05 [] = .unknown ∧ decodeRequest 0x02 [0] = .badForm .status := by decide +kernel

/-- R163 gives the CRC of the nine bytes "123456789". -/
theorem test_crc : crc16 [0x31, 0x32, 0x33, 0x34, 0x35, 0x36, 0x37, 0x38, 0x39] = 0x29B1 := by decide +kernel

/-! ### The spec's worked cases -/

/-- Section 1.4, acquiring speed: the fifth and sixth pitch events. -/
theorem test_average_interval :
    pAvg [520000, 440000, 390000, 360000] = some 427500 ∧ pAvg [440000, 390000, 360000, 335000] = some 381250
    ∧ pAvg [520000, 440000, 390000] = none ∧ pUse [30000, 30000, 30000, 30000] = some 40000 := by decide

/-- R86, R87 and section 5.6, a single tray at changing speed. -/
theorem test_single_tray :
    flightTime { Profile.default with tXfer := 900000, vB := 2000 } 451 = 1012750
    ∧ leadCounts 1012750 200 320000 = 633 ∧ candidateX geo400 3700 2 12000 633 100 = 9233
    ∧ candidate geo400 3700 2 12000 633 100 = 47 ∧ mergePosition geo400 3700 47 100 = 13200
    ∧ launchPoint geo400 13200 633 = 12567 ∧ signedDistance 80000 12000 12567 = 567
    ∧ leadCounts 1012750 200 310000 = 653 ∧ launchPoint geo400 13200 653 = 12547
    ∧ verdictOf 200 147 = .commit ∧ verdictOf 200 (-10) = .missed ∧ verdictOf 200 200 = .track := by decide

/-- Section 5.6, a pair across the wrap. -/
theorem test_pair_across_the_wrap :
    flightTime { Profile.default with tXfer := 750000, vB := 2000 } 1000 = 1000000
    ∧ leadCounts 1000000 200 320000 = 625 ∧ candidate geo400 1000 2 79800 625 200 = 399
    ∧ candidatePartner 400 399 .two = some 0 ∧ mergePosition geo400 1000 399 200 = 1000
    ∧ launchPoint geo400 1000 625 = 375 ∧ signedDistance 80000 79800 375 = 575 := by decide

/-- Section 7.6, lapse across the wrap: trays 398 and 0 lapse, 3 and 10 stay, and the count falls from 4 to 2. -/
theorem test_lapse_across_the_wrap :
    let s := [398, 0, 3, 10].foldl (fun s t => s.putTray t (.free (some 5))) (onLoop geo400)
    let t := s.lapseEarmarks 400 5 3
    (s.share 5).outstanding = 4 ∧ (t.share 5).outstanding = 2 ∧ t.tray 398 = .free none ∧ t.tray 0 = .free none
    ∧ t.tray 3 = .free (some 5) ∧ t.tray 10 = .free (some 5) := by decide +kernel

/-- Section 7.3, walks with repeated slots: the first grants of the table. -/
def walkState : State :=
  let s := onLoop geo400
  let s := { s with eal := { s.eal with rotation := [0, 2, 2, 5], position := 0 } }
  let s := withLane s 0 (fun ln => { ln with state := .waiting, records := [.atHold small] })
  let s := withLane s 2 (fun ln => { ln with state := .idle, records := [.onBelt small] })
  let s := s.modShare 0 (fun x => { x with counter := 1 })
  s.modShare 2 (fun x => { x with counter := 70, outstanding := 1 })

theorem test_walks :
    let s0 := walkState.handOver 100
    let s1 := s0.handOver 101
    let s2 := s1.handOver 102
    s0.tray 100 = .free (some 0) ∧ s0.eal.position = 1 ∧ s1.tray 101 = .free (some 2) ∧ s1.eal.position = 2
    ∧ s2.tray 102 = .free none ∧ s2.eal.position = 2
    ∧ s2.share 0 = { reload := 1024, counter := 0, outstanding := 1 }
    ∧ s2.share 2 = { reload := 1024, counter := 69, outstanding := 2 } := by decide +kernel

/-- Section 8.5, one recompute for three manual lanes: with every lane present, and with lane 5 absent. -/
def paceState : State :=
  let s := onLoop geo400
  let s : State := { s with
    eal := { s.eal with rotation := [0, 2, 2, 5] },
    csm := { s.csm with fPrev := 180 },
    lanes := s.lanes.map (fun ln => { ln with mode := .manual, copy := { ln.copy with mode := .auto } }) }
  s.modShare 2 (fun x => { x with reload := 70 })

theorem test_recompute :
    let t := paceState.recomputePace 400
    let u := (withLane paceState 5 (fun ln => { ln with mode := .absent })).recomputePace 400
    (t.paceOf 0).pending = 9 ∧ (t.paceOf 2).pending = 6 ∧ (t.paceOf 5).pending = 9 ∧ (t.paceOf 7).pending = 60
    ∧ (u.paceOf 0).pending = 7 ∧ (u.paceOf 2).pending = 6 ∧ (u.paceOf 7).pending = 60 := by decide +kernel

/-! ### One step of each command -/

/-- R182: the power-up values. -/
theorem test_powerUp :
    let t := after .powerUp base
    t.ltk.loop = .unsynced ∧ t.pst.geometry = none ∧ (t.link 0).window = none
    ∧ (t.profile 3).tXfer = 800000 := by decide +kernel

/-- R2, R3: Q goes from 95 to 96, a multiple of 16, and the interval since the last pitch event joins the history. -/
theorem test_encoderCount_pitch :
    let t := after (.encoderCount (at_ 300000) 5 []) (withLtk base (fun k => { k with q := 95 }))
    t.ltk.q = 96 ∧ t.ltk.history = [320000, 320000, 320000, 300000] ∧ t.ltk.lastPitch = some 300000 := by decide +kernel

/-- Section 3.9: tray 62 (here 6) found occupied goes from 2 to its limit of 3, with RECIRC_LIMIT. -/
theorem test_encoderCount_recirculation :
    let s := withTray (withLtk base (fun k => { k with q := 108 })) 6
      (.loaded (some { holder := 0, ticket := none, length := 300 }) none 2 false false)
    let t := after (.encoderCount (at_ 1) 5 occupied) s
    t.tray 6 = .loaded (some { holder := 0, ticket := none, length := 300 }) none 3 false false
    ∧ (t.link 0).queue = [.notice (.recircLimit 6 none (some 0) none 3)] := by decide +kernel

/-- R1, R49: the eye is acted on at the last level that has held for 50 µs; another is no change of it. -/
theorem test_encoderCount_eye_holds :
    let s := withTray (withLtk base (fun k => { k with q := 108 })) 6 (.free none)
    let t (eye : List EyeLevel) := after (.encoderCount (at_ 1) 5 eye) s
    (t [⟨true, 49⟩]).tray 6 = .free none ∧ (t [⟨true, 49⟩]).lines.checkEye = false ∧ (t [⟨true, 49⟩]).csm.fRev = 1
    ∧ (t [⟨true, 50⟩]).tray 6 = .blocked 0 .ghost
    ∧ (t [⟨true, 50⟩, ⟨false, 49⟩]).tray 6 = .blocked 0 .ghost := by decide +kernel

/-- R57: a RESERVED pair found occupied at its TRAIL is one GHOST event, which names the LEAD first. -/
theorem test_encoderCount_ghost_names_the_lead_first :
    let x : Solution :=
      { tray := 5, partner := some 6, offset := 16, merge := 188, lead := 60, launch := 128, dist := 28 }
    let s := withLane (withLtk base (fun k => { k with q := 108 })) 0 (fun ln => { ln with
      state := .tracking x, records := [.atHold long] })
    let s := withTray (withTray s 5 (.reserved 0 (some ⟨6, .lead⟩) true)) 6 (.reserved 0 (some ⟨5, .trail⟩) false)
    let s := withLink s 1 (fun k => { k with discharge := true })
    ((after (.encoderCount (at_ 1) 5 occupied) s).link 1).queue
      = [.notice (.reservedGhost 5 (some 6) 0 [.disabled, .blocked])] := by decide +kernel

/-- Section 1.5, two failures: a marker at Q = 120 of NC = 80,000 is a slip of +120. -/
theorem test_homePulse_slip :
    let t := after (.homePulse (at_ 1) 50 []) (withLtk (onLoop geo400) (fun k => { k with q := 120 }))
    t.ltk.q = 0 ∧ t.ltk.recount = 120 ∧ t.ltk.slips = 1 ∧ t.ltk.loop = .running
    ∧ (t.link 0).queue.head? = some (.notice (.slip 120)) := by decide +kernel

/-- Section 1.5, clean corrections: lane 2 is COMMITTED at launch point 79,990 and fires at the marker. -/
theorem test_homePulse_fires_on_the_way :
    let x : Solution :=
      { tray := 40, partner := none, offset := 100, merge := 11800, lead := 633, launch := 79990, dist := 15 }
    let s := withHold (withLane (withLtk (onLoop geo400) (fun k => { k with q := 79975 })) 2
      (fun ln => { ln with state := .committed x, records := [.atHold small] })) 2
    let t := after (.homePulse (at_ 1) 50 []) (withTray s 40 (.reserved 2 none false))
    t.ltk.q = 0 ∧ t.tray 40 = .launched { holder := 2, ticket := some 7, length := 451 } none false
    ∧ (t.lane 2).state = .releasing 1 2000 := by decide +kernel

/-- R7: STATE of cause STALL comes first. -/
theorem test_stallTimerExpiry :
    let t := after (.stallTimerExpiry (at_ 1)) base
    t.ltk.loop = .stopped ∧ t.ltk.history = [] ∧ (t.link 0).queue = [.notice (.state .running .stopped .stall)] := by
  decide +kernel

/-- R69: the oldest ticket is bound. -/
theorem test_leadingEdge :
    let t := after (.lengthEyeLeadingEdge (at_ 1) 50 0) (withLane base 0 (fun ln => { ln with tickets := [7, 8] }))
    (t.lane 0).records = [.measuring 0 (some 7)] ∧ (t.lane 0).tickets = [8] := by decide +kernel

/-- R70: with 225,400 µs of belt-time at 2,000 mm/s the length is 451 mm. -/
theorem test_trailingEdge_length :
    let s := withEye (withLane base 0 (fun ln => { ln with
      state := .idle, records := [.measuring 0 none], copy := { ln.copy with vB := 2000 } })) 0
    ((after (.lengthEyeTrailingEdge (at_ 225400) 50 0) s).lane 0).records
      = [.onBelt { ticket := none, length := 451, disposition := .induct .one }] := by decide +kernel

/-- Section 4.3, a measurement across a belt stop: 400,000 µs of belt-time at 1,500 mm/s is 600 mm, one tray. -/
theorem test_trailingEdge_belt_time :
    let s := withEye (withLane base 6 (fun ln => { ln with
      state := .releasing 0 2000, records := [.measuring 40000000 none], beltTime := 40150000 })) 6
    ((after (.lengthEyeTrailingEdge (at_ 250000) 50 6) s).lane 6).records
      = [.onBelt { ticket := none, length := 600, disposition := .induct .one }] := by decide +kernel

/-- R75. -/
theorem test_holdEyeBlocked :
    let s := withLane base 0 (fun ln => { ln with state := .idle, records := [.onBelt small] })
    let t := after (.holdEyeBlocked (at_ 1) 50 0) s
    (t.lane 0).state = .waiting ∧ (t.lane 0).records = [.atHold small] := by decide +kernel

/-- R104. -/
theorem test_holdEyeCleared :
    let e : InFlight := { tray := 3, partner := none, ticket := none, length := 100, merge := 500, holdClear := false }
    let s := withHold (withLane base 0 (fun ln => { ln with state := .releasing 0 2000, inflight := [e] })) 0
    let t := after (.holdEyeCleared (at_ 1) 50 0) s
    (t.lane 0).state = .idle ∧ (t.lane 0).inflight = [{ e with holdClear := true }] := by decide +kernel

/-- R105, R26: the tray of an uncleared flight is UNVERIFIED, disable pending kept. -/
theorem test_holdClearTimeout :
    let e : InFlight := { tray := 3, partner := none, ticket := none, length := 100, merge := 500, holdClear := false }
    let s := withTray (withLane base 0 (fun ln => { ln with state := .releasing 0 2000, inflight := [e] })) 3
      (.launched { holder := 0, ticket := none, length := 100 } none true)
    let t := after (.holdClearTimeout (at_ 1) 0) s
    (t.lane 0).state = .faulted .jam ∧ (t.lane 0).inflight = [] ∧ t.tray 3 = .unverified true := by decide +kernel

/-- R178: DISABLED trays stay, all others are UNVERIFIED; a second rise without a fall does nothing. -/
theorem test_restartInput :
    let t := after (.restartInput (at_ 1) 10000) (withTray base 9 .disabled)
    t.tray 9 = .disabled ∧ t.tray 8 = .unverified false ∧ t.ltk.loop = .unsynced
    ∧ (after (.restartInput (at_ 2) 10000) (withTray t 8 (.free none))).tray 8 = .free none
    ∧ (after (.restartInputFall (at_ 2) 50) t).lines.restartActive = false := by decide +kernel

/-- R118, R169: the window's IDLE lane is paused. -/
theorem test_liveTimerExpiry :
    let t := after (.liveTimerExpiry (at_ 1) 0) (withLane base 4 (fun ln => { ln with state := .idle }))
    (t.lane 4).state = .paused ∧ (t.link 0).planner = false ∧ (t.link 0).live = none := by decide +kernel

/-- R163: a PING frame with the right CRC is answered; with a wrong one it is a frame error. -/
theorem test_frameReceived :
    ((after (.frameReceived (at_ 1) 0 0x01 9 [5] (frameCrc 0x01 9 [5])) base).link 0).queue
      = [.reply 0x01 9 (okReply (.echo [5]))]
    ∧ ((after (.frameReceived (at_ 1) 0 0x01 9 [5] (frameCrc 0x01 9 [5] + 1)) base).link 0).frameErrors = 1 := by
  decide +kernel

/-- R163: outside a frame a framing error does nothing; within one it is counted and the receiver hunts. -/
theorem test_framingError :
    let s := withLink base 0 (fun k => { k with receiver := .collecting [4, 1] })
    ((after (.framingError (at_ 1) 0) base).link 0).frameErrors = 0
    ∧ ((after (.framingError (at_ 1) 0) s).link 0).frameErrors = 1
    ∧ ((after (.frameGapTimeout (at_ 1) 0) s).link 0).receiver = .hunting := by decide +kernel

/-- R171: the head of the queue leaves when it has been sent. -/
theorem test_frameSent :
    ((after (.frameSent (at_ 1) 0) (withQueue base 0 2)).link 0).queue = [.notice .markerMissing] := by decide +kernel

/-- R162, R163: a PING sent byte by byte; the frame's last byte brings the reply. -/
theorem test_byteReceived :
    let bytes := frameBytes 0x01 9 [5]
    bytes = [0xA5, 3, 1, 9, 5, 0xC2, 0x11] ∧
    ((bytes.foldl (fun s b => after (.byteReceived (at_ 1) 0 b) s) base).link 0).queue
      = [.reply 0x01 9 (okReply (.echo [5]))] := by decide +kernel

/-- R176: an echo of 250 bytes would not fit a frame. -/
theorem test_ping :
    ((after (.ping (at_ 1) 0 9 (List.replicate 250 1)) base).link 0).queue
      = [.reply 0x01 9 (refusal .badValue)] := by decide +kernel

/-- R173, R177: the reply's own place is counted, and overflow pending is reported and cleared. -/
theorem test_status :
    let t := after (.status (at_ 1) 0 9) (withLink base 0 (fun k => { k with overflow := true }))
    (t.link 0).overflow = false ∧
    (match (t.link 0).queue with
      | [.reply _ _ ⟨_, .status r⟩] => r.placesInUse == 1 && r.overflowReported && r.pAvg == 320000
      | _ => false) = true := by decide +kernel

/-- R166: DISCHARGE is taken by link 0; a window over lanes 6 to 7 overlaps link 0's. -/
theorem test_bind :
    ((after (.bind (at_ 1) 1 9 1 0 0) base).link 1).queue = [.reply 0x03 9 (refusal .roleTaken (.holder 0))]
    ∧ ((after (.bind (at_ 1) 1 9 2 6 7) base).link 1).queue = [.reply 0x03 9 (refusal .windowOverlap (.holder 0))]
    ∧ ((after (.bind (at_ 1) 1 9 0 0 0) State.reset).link 1).planner = true := by decide +kernel

theorem test_unbind :
    let t := after (.unbind (at_ 1) 0 9) base
    (t.link 0).window = none ∧ (t.link 0).live = none
    ∧ (t.link 0).queue = [.reply 0x04 9 (okReply (.roles false false false))] := by decide +kernel

/-- The words of the small loop, with one field given. -/
def words (slipTol : Byte) : GeometryWords :=
  { n := 64, c := 16, sChk := 5, s0 := 100, s1 := 200, s2 := 200, s3 := 300, s4 := 5, s5 := 900, s6 := 1020, s7 := 500,
    u := 600, slipTol := slipTol, pSlow := 1000000, tStall := 500, recircLimit := 3 }

/-- R158, R159: a slip tolerance of 5 is above C/4 = 4; it is the thirteenth field, place 12. -/
theorem test_setGeometry :
    let s := withLtk base (fun k => { k with loop := .stopped })
    (after (.setGeometry (at_ 1) 0 9 (words 4)) s).tray 63 = .unverified false
    ∧ ((after (.setGeometry (at_ 1) 0 9 (words 5)) s).link 0).queue
      = [.reply 0x08 9 (refusal .badValue (.geometryField 12))] := by decide +kernel

/-- Section 9.1, a write that is clamped. -/
theorem test_writeProfile :
    let w : ProfileWords := ⟨30000, 3500, 0, 12000, 20, 9, 1, 80, 40, 25⟩
    let p : Profile := ⟨50000, 3000, 1, 10000, 20, 8, .auto, 80, 40, 40⟩
    let t := after (.writeProfile (at_ 1) 0 9 4 w) base
    t.profile 4 = p ∧ (t.link 0).queue = [.reply 0x09 9 ⟨.ok true, .profileWritten 4 p⟩] := by decide +kernel

theorem test_readProfile :
    ((after (.readProfile (at_ 1) 0 9 15) base).link 0).queue
      = [.reply 0x0A 9 (okReply (.profileRead Profile.default []))]
    ∧ ((after (.readProfile (at_ 1) 0 9 16) base).link 0).queue = [.reply 0x0A 9 (refusal .badValue)] := by
  decide +kernel

/-- R152: the lane is marked, also when it was bound to that record already. -/
theorem test_bindProfile :
    let t := after (.bindProfile (at_ 1) 0 9 2 0) base
    (t.lane 2).adoptPending = true ∧ (t.link 0).queue = [.reply 0x0B 9 (okReply (.profileBound 2 0 true))] := by
  decide +kernel

/-- R180: ABSENT empties the lane and keeps its counters. -/
theorem test_setLaneMode :
    let s := withLane base 2 (fun ln => { ln with records := [.onBelt small], counters := ⟨1, 2, 3, 4, 5, 6⟩ })
    let t := after (.setLaneMode (at_ 1) 0 9 2 0) s
    (t.lane 2).state = .absent ∧ (t.lane 2).records = [] ∧ (t.lane 2).counters = ⟨1, 2, 3, 4, 5, 6⟩ := by decide +kernel

/-- R156: an ABSENT lane's copy is its record, also where it came there with an adoption pending. -/
theorem test_setLaneMode_absent_adopts :
    let s := withLane base 2 (fun ln => { ln with adoptPending := true, copy := { ln.copy with vB := 2000 } })
    let t := after (.setLaneMode (at_ 1) 0 9 2 0) s
    (t.lane 2).adoptPending = false ∧ (t.lane 2).copy = Profile.default := by decide +kernel

/-- R126: a list of two slots in a request that counts three is refused. -/
theorem test_setRotation :
    (after (.setRotation (at_ 1) 0 9 3 [7, 0, 7]) base).eal.rotation = [7, 0, 7]
    ∧ ((after (.setRotation (at_ 1) 0 9 3 [7, 0]) base).link 0).queue = [.reply 0x0D 9 (refusal .badValue)] := by
  decide +kernel

/-- R130: 2,000 is held at 1,024, and a counter above a new value of 10 is lowered to it. -/
theorem test_setQuota :
    (after (.setQuota (at_ 1) 0 9 1 10) base).share 1 = { reload := 10, counter := 10, outstanding := 0 }
    ∧ ((after (.setQuota (at_ 1) 0 9 1 2000) base).link 0).queue
      = [.reply 0x0E 9 ⟨.ok true, .quota 1 1024 1024⟩] := by decide +kernel

/-- R145: 0 is raised to I_min, 2. -/
theorem test_setPace :
    let t := after (.setPace (at_ 1) 0 9 1 0) base
    (t.paceOf 1).pending = 2 ∧ (t.paceOf 1).active = 8 := by decide +kernel

/-- R41: a FREE tray is DISABLED, a LAUNCHED one has disable pending. -/
theorem test_disableTrays :
    let ld : LaneLoad := { holder := 0, ticket := none, length := 100 }
    let t := after (.disableTrays (at_ 1) 0 9 3 4) (withTray base 4 (.launched ld none false))
    t.tray 3 = .disabled ∧ t.tray 4 = .launched ld none true ∧ t.tray 5 = .free none
    ∧ (t.link 0).queue = [.reply 0x10 9 (okReply (.disabled 1 1 0))] := by decide +kernel

/-- R43. -/
theorem test_enableTrays :
    let t := after (.enableTrays (at_ 1) 0 9 3 4) (withTray base 3 .disabled)
    t.tray 3 = .unverified false ∧ t.tray 4 = .free none
    ∧ (t.link 0).queue = [.reply 0x11 9 (okReply (.enabled 1 0))] := by decide +kernel

/-- R19. -/
theorem test_resync :
    let t := after (.resync (at_ 1) 0 9) base
    t.ltk.loop = .unsynced ∧ t.ltk.resyncPending = true
    ∧ (t.link 0).queue.head? = some (.reply 0x12 9 (okReply (.resync .unsynced false true))) := by decide +kernel

/-- R178: the reply is the first frame of its link's new queue. -/
theorem test_restart :
    let t := after (.restart (at_ 1) 0 9) (withQueue base 0 5)
    (t.link 0).queue = [.reply 0x13 9 (okReply .none), .notice (.state .running .unsynced .restart)] := by decide +kernel

/-- R44: the trays read go round the ring. -/
theorem test_mapRead :
    ((after (.mapRead (at_ 1) 0 9 63 2) (withTray base 0 .disabled)).link 0).queue
      = [.reply 0x14 9 (okReply (.map .running 100 0 [(63, .free none), (0, .disabled)]))] := by decide +kernel

/-- R37: both members of a pair, LEAD first, each by its own disable pending. -/
theorem test_discharged :
    let s := withTray (withTray base 8 (.loaded none (some ⟨9, .lead⟩) 0 false true)) 9
      (.loaded none (some ⟨8, .trail⟩) 0 false false)
    let t := after (.discharged (at_ 1) 0 9 9) s
    t.tray 8 = .disabled ∧ t.tray 9 = .free none
    ∧ (t.link 0).queue = [.reply 0x18 9 (okReply (.trays [(8, .disabled), (9, .free)]))] := by decide +kernel

/-- R39. -/
theorem test_clearBlock :
    (after (.clearBlock (at_ 1) 0 9 8) (withTray base 8 (.blocked 1 .ghost))).tray 8 = .unverified false
    ∧ ((after (.clearBlock (at_ 1) 0 9 8) base).link 0).queue = [.reply 0x19 9 (refusal .stale (.present .free))] := by
  decide +kernel

/-- R112: the head at a blocked hold eye is a REJECT. -/
theorem test_arm :
    let s := withHold (withLane base 3 (fun ln => { ln with records := [.onBelt reject] })) 3
    ((after (.arm (at_ 1) 0 9 3) base).lane 3).state = .idle
    ∧ ((after (.arm (at_ 1) 0 9 3) s).lane 3).state = .faulted .tooLong := by decide +kernel

/-- R113: in RELEASING the pause is pending. -/
theorem test_pause :
    let t := after (.pause (at_ 1) 0 9 3) (withLane base 3 (fun ln => { ln with state := .releasing 0 2000 }))
    (t.lane 3).pausePending = true
    ∧ (t.link 0).queue = [.reply 0x21 9 (okReply (.paused .releasing true))] := by decide +kernel

/-- R115: CLEAR of TOO_LONG removes the head. -/
theorem test_clear :
    let s := withLane base 3 (fun ln => { ln with state := .faulted .tooLong, records := [.atHold reject, .onBelt small] })
    let t := after (.clear (at_ 1) 0 9 3) s
    (t.lane 3).state = .paused ∧ (t.lane 3).records = [.onBelt small] := by decide +kernel

/-- R74: the ninth ticket is refused FULL with the count 8. -/
theorem test_announce :
    let s := withLane base 3 (fun ln => { ln with tickets := List.replicate 8 1 })
    ((after (.announce (at_ 1) 0 9 3 77) base).lane 3).tickets = [77]
    ∧ ((after (.announce (at_ 1) 0 9 3 77) s).link 0).queue = [.reply 0x23 9 (refusal .full (.tickets 8))] := by
  decide +kernel

/-- R79: overfill pending is reported and cleared. -/
theorem test_laneStatus :
    let t := after (.laneStatus (at_ 1) 0 9 3) (withLane base 3 (fun ln => { ln with overfillPending := true }))
    (t.lane 3).overfillPending = false ∧
    (match (t.link 0).queue with
      | [.reply _ _ ⟨_, .lane r⟩] => r.overfillReported && r.state == .paused && r.cue == none
      | _ => false) = true := by decide +kernel

/-- A step takes the first command and leaves the rest; with none it idles. -/
theorem test_step :
    (match step { base with pending := [.frameSent (at_ 1) 0, .powerUp] } with
      | .next t => t.pending == [.powerUp]
      | .fault _ => false
      | .refused _ => false) = true ∧ step base = .next base := ⟨by decide +kernel, rfl⟩

/-! ### Premises of the certificates, decided -/

/-- No launch or merge of a lane is due at a position. -/
def quietB (s : State) (q : Nat) (l : LaneId) : Bool :=
  (match (s.lane l).state with
    | .committed x => x.launch != q
    | _ => true) &&
  (match (s.lane l).inflight with
    | e :: _ => e.merge != q
    | [] => true)

theorem quiet_of {s : State} {q : Nat} {l : LaneId} (h : quietB s q l = true) : s.laneQuietAt q l := by
  unfold quietB at h
  refine ⟨fun x hx => ?_, fun e he => ?_⟩
  · rw [hx] at h; simp at h; exact h.1
  · cases hi : (s.lane l).inflight with
    | nil => rw [hi] at he; cases he
    | cons a b => rw [hi] at he h; simp at he h; rw [← he]; exact h.2

/-- A lane is ABSENT, PAUSED or FAULTED. -/
def restB (s : State) (l : LaneId) : Bool :=
  match (s.lane l).state with
  | .absent => true
  | .paused => true
  | .faulted _ => true
  | _ => false

theorem rest_of {s : State} {l : LaneId} (h : restB s l = true) : s.atRest l := by
  unfold restB at h
  unfold State.atRest
  split at h <;> simp_all

theorem not_rest_of {s : State} {l : LaneId} (h : restB s l = false) : ¬ s.atRest l := by
  unfold restB at h
  unfold State.atRest
  split at h <;> simp_all

/-- No centre passage falls at a position whose place in its pitch is another. -/
theorem no_centre {q : Nat} (h : (q + 1024 - 5) % 16 ≠ 8) (t : Nat) : ¬ geo.centreAt t q := by
  intro hc
  simp only [Geometry.centreAt, geo] at hc
  omega

theorem geo_inRange : geo.InRange :=
  ⟨by decide, by decide, by decide, by decide, by decide, by decide, by decide, by decide, by decide⟩

theorem hears_of {s : State} {k : LinkId} {n : Notice} (h : (s.link k).hears n.audience = true) : s.hears k n :=
  (Link.hears_iff s k n).1 h

/-- A notice of link 0's is told: it hears it, and has room after the command. -/
def told (c : Instr) (s : State) (n : Notice) : Bool :=
  (s.link 0).hears n.audience && decide (((after c s).link 0).queue.length < 32)

theorem samples_of {s : State} {t : Nat} {m : Moment} (hg : s.pst.geometry = some geo) (hl : s.ltk.loop = .running)
    (hr : s.ltk.recount = 0) (ht : t < 64) (hc : geo.centreAt t (s.nextQ geo)) (hp : s.nextQ geo % 16 ≠ 0)
    (hq : ∀ l, quietB s (s.nextQ geo) l = true) : s.Samples geo m 5 t :=
  have hw : s.nextQ geo ≠ geo.c := fun e => hp (by rw [e]; rfl)
  ⟨⟨hg, by decide, by decide, by rw [hl]; decide, hr, ht, hc, .inl hw⟩, fun h => (by rw [hl] at h; cases h),
    fun h => absurd h hp, fun l => quiet_of (hq l)⟩

/-- With no MANUAL lane every cue is DARK. -/
theorem cues_of {s : State} (h : ∀ l, (s.lane l).mode ≠ .manual ∧ (s.paceOf l).cue = .dark) : s.CuesAtRest :=
  fun _ l => ⟨fun _ => (h l).2, fun e => ((h l).1 e).elim, fun e => ((h l).1 e).elim, fun e => ((h l).1 e).elim,
    fun e => ((h l).1 e).elim⟩

/-- A pitch event passes: the average stays at 320,000, and the lanes are at rest, or IDLE with no earmark that lapses. -/
theorem passes_of {s : State} {g : Geometry} (hl : s.ltk.loop = .running) (hw : s.ltk.windowOpen = false)
    (hh : s.pitchHistory 320000 = [320000, 320000, 320000, 320000]) (hs : 320000 ≤ g.pSlow)
    (ha : ∀ k, restB s k = true ∨ ((s.lane k).mode ≠ .manual ∧ (s.lane k).state = .idle
      ∧ (s.handReach g k (s.nextQ g) 320000 .one 0).tmap = s.tmap
      ∧ (s.handReach g k (s.nextQ g) 320000 .one 0).eal = s.eal)) : s.PitchPasses g (at_ 320000) where
  window := .inr hw
  slow h := by rw [hl] at h; rcases h with h | h <;> cases h
  fast := by
    rintro ⟨-, i1, i2, i3, i4, h, h'⟩
    have h : s.pitchHistory 320000 = [i1, i2, i3, i4] := h
    rw [hh] at h; cases h; omega
  lanes _ k := by
    rcases ha k with h | ⟨a, b, c, d⟩
    · exact .inl (rest_of h)
    · refine .inr ⟨a, .inl b, fun i1 i2 i3 i4 h => ?_⟩
      have h : s.pitchHistory 320000 = [i1, i2, i3, i4] := h
      rw [hh] at h; cases h
      exact ⟨c.symm ▸ rfl, d.symm ▸ rfl⟩

/-- The loop just before the centre passage of tray 6, which is in a given state. -/
def sampling (e : Tray) : State := withTray (withLtk base (fun k => { k with q := 108 })) 6 e

/-- The loop just before a pitch event at Q = 96, with P_use 320,000 at reading 320,000. -/
def pitching : State := withLtk base (fun k => { k with q := 95 })

theorem pitch_of {s : State} {l : LaneId} (hg : s.pst.geometry = some geo) (hq : s.ltk.q = 95)
    (hl : s.ltk.loop = .running)
    (hh : s.pitchHistory 320000 = [320000, 320000, 320000, 320000])
    (ha : ∀ k, k ≠ l → restB s k = true) (hu : ∀ k, quietB s 96 k = true) :
    s.RunningPitch geo (at_ 320000) 5 320000 l := by
  have h96 : s.nextQ geo = 96 := by rw [State.nextQ, hq]; decide
  exact ⟨hg, geo_inRange, by rw [hq]; decide, by decide, hl, by rw [h96]; decide, .inl (by rw [h96]; decide),
    ⟨_, _, _, _, hh, by decide, by decide⟩, fun k hk => rest_of (ha k hk), fun t => by rw [h96]; exact no_centre (by decide) t,
    fun k => by rw [h96]; exact quiet_of (hu k)⟩

theorem holds_of {s : State} {k : LinkId} {l : LaneId} (h : (s.link k).holds l = true) : s.holdsLane k l :=
  (Link.holds_iff s k l).1 h

theorem not_holds_of {s : State} {k : LinkId} {l : LaneId} (h : (s.link k).holds l = false) : ¬ s.holdsLane k l := by
  rw [← Link.holds_iff, h]; simp

/-- What BindingsSound says, decided. -/
def soundB (s : State) : Bool :=
  allLinks.all (fun j => allLinks.all (fun k => (j == k) ||
    (!((s.link j).planner && (s.link k).planner) && !((s.link j).discharge && (s.link k).discharge)
      && allLanes.all (fun l => !((s.link j).holds l && (s.link k).holds l))))
    && (match (s.link j).window with
      | some w => decide (w.base ≤ w.limit)
      | none => true)
    && ((s.link j).live.isNone == !(s.link j).bound))

theorem mem_allLinks (k : LinkId) : k ∈ allLinks := by revert k; decide
theorem mem_allLanes (l : LaneId) : l ∈ allLanes := by revert l; decide

theorem sound_of {s : State} (h : soundB s = true) : BindingsSound s := by
  unfold soundB at h
  rw [List.all_eq_true] at h
  have hj := fun j => h j (mem_allLinks j)
  simp only [Bool.and_eq_true, List.all_eq_true, Bool.or_eq_true, beq_iff_eq] at hj
  refine ⟨fun j k a b => ?_, fun j k a b => ?_, fun j k l a b => ?_, fun k w a => ?_, fun k => ?_⟩
  · rcases (hj j).1.1 k (mem_allLinks k) with e | e
    · exact e
    · simp [a, b] at e
  · rcases (hj j).1.1 k (mem_allLinks k) with e | e
    · exact e
    · simp [a, b] at e
  · rcases (hj j).1.1 k (mem_allLinks k) with e | e
    · exact e
    · rw [← Link.holds_iff] at a b
      have := e.2 l (mem_allLanes l)
      simp [a, b] at this
  · have := (hj k).1.2
    rw [a] at this
    simpa using this
  · have := (hj k).2
    rw [← Link.bound_iff]
    cases hb : (s.link k).bound <;> cases hl : (s.link k).live <;> simp_all

/-! ### Witnesses: the machine's invariants -/

theorem witness_StepTakesTheFirstCommand : base.pending = [] := rfl

/-- Full lists, full queues, earmarks, and a command waiting. -/
def busy : State :=
  let e : InFlight := { tray := 3, partner := none, ticket := none, length := 100, merge := 500, holdClear := true }
  let s := withLane base 0 (fun ln => { ln with
    state := .releasing 0 2000, records := List.replicate 4 (.onBelt small), tickets := List.replicate 8 1,
    inflight := List.replicate 4 e, pausePending := true })
  let s := withLane s 1 (fun ln => { ln with mode := .manual })
  let s := withLink s 0 (fun k => { k with
    queue := List.replicate 32 (.notice .markerMissing) ++ List.replicate 8 (.reply 1 2 (refusal .busy)) })
  let s := s.putTray 9 (.free (some 2))
  { s with pending := [.frameSent (at_ 1) 0] }

theorem busy_steps : ∃ t, step busy = .next t := ⟨_, rfl⟩

theorem witness_StepKeepsTheQueuesBounded : QueuesBounded busy ∧ ∃ t, step busy = .next t :=
  ⟨by unfold QueuesBounded; decide +kernel, busy_steps⟩

theorem witness_StepKeepsTheListsBounded : ListsBounded busy ∧ ∃ t, step busy = .next t := by
  have a : ∀ l, (busy.lane l).records.length ≤ 4 := by decide +kernel
  have b : ∀ l, (busy.lane l).tickets.length ≤ 8 := by decide +kernel
  have c : ∀ l, (busy.lane l).inflight.length ≤ 4 := by decide +kernel
  have d : ∀ l, (busy.lane l).state.solution?.isSome → (busy.lane l).inflight.length < 4 := by decide +kernel
  exact ⟨fun l => ⟨a l, b l, c l, d l⟩, busy_steps⟩

theorem witness_StepKeepsTheEarmarksCounted :
    EarmarksCounted busy ∧ (busy.share 2).outstanding = 1 ∧ ∃ t, step busy = .next t :=
  ⟨⟨by decide +kernel, by decide +kernel⟩, by decide +kernel, busy_steps⟩

theorem default_inRange : Profile.default.InRange :=
  ⟨by decide, by decide, by decide, by decide, by decide, by decide, by decide, by decide, by decide, by decide⟩

theorem witness_StepKeepsTheSettingsInRange :
    (QuotasBounded busy ∧ ProfilesInForce busy) ∧ ∃ t, step busy = .next t := by
  have a : ∀ i, busy.profile i = Profile.default := by decide +kernel
  have b : ∀ l, (busy.lane l).copy = Profile.default := by decide +kernel
  refine ⟨⟨⟨by decide +kernel, by decide +kernel, by decide +kernel, by decide +kernel⟩, ?_⟩, busy_steps⟩
  exact ⟨fun i => by rw [a]; exact default_inRange, fun l => by rw [b]; exact default_inRange,
    by decide +kernel, by decide +kernel, by decide +kernel, by decide +kernel⟩

theorem witness_StepKeepsTheLoopSound : LoopSound busy ∧ ∃ t, step busy = .next t := by
  have hg : busy.pst.geometry = some geo := by decide +kernel
  refine ⟨⟨fun h => ?_, fun g h => ?_, by decide +kernel, by decide +kernel⟩, busy_steps⟩
  · rw [hg] at h; cases h
  · rw [hg] at h
    cases h
    exact ⟨geo_inRange, by decide +kernel, by decide +kernel⟩

theorem witness_StepKeepsTheBindingsSound : BindingsSound busy ∧ ∃ t, step busy = .next t :=
  ⟨sound_of (by decide +kernel), busy_steps⟩

theorem witness_StepKeepsTheLanesShown : LanesShown busy ∧ ∃ t, step busy = .next t := by
  have hf : ∀ l, (busy.lane l).state.fault? = none := by decide +kernel
  have no : ∀ l r, (busy.lane l).state ≠ .faulted r := fun l r h => by have := hf l; rw [h] at this; cases this
  have a : ∀ l, (busy.lane l).mode = .absent ↔ (busy.lane l).state = .absent := by decide +kernel
  have b : ∀ l, (busy.lane l).state ≠ .absent := by decide +kernel
  have c : ∀ l, (busy.lane l).pausePending = true → (busy.lane l).state = .releasing 0 2000 := by decide +kernel
  have d : ∀ l, (busy.lane l).mode ≠ .manual → (busy.paceOf l).cue = .dark := by decide +kernel
  have e : ∀ l, (busy.lane l).mode = .manual → (busy.lane l).state = .paused ∧ (busy.paceOf l).cue = .dark := by
    decide +kernel
  have f : ∀ l, (busy.lane l).mode ≠ .manual → (busy.paceOf l).beat = 0 := by decide +kernel
  refine ⟨⟨fun l => ⟨a l, fun h => (b l h).elim, fun h => (b l h).elim, fun h => .inr ⟨_, _, c l h⟩⟩, fun l => ?_, f⟩, busy_steps⟩
  exact ⟨d l, fun h _ => (e l h).2, fun _ r h => (no l r h).elim, fun h hp => (hp (e l h).1).elim,
    fun h hp => (hp (e l h).1).elim⟩

/-! ### Witnesses: the loop -/

/-- One state or operand for each premise: the shortest holds that fail, a loop without a geometry record, a marker
not armed and one ignored in UNSYNCED, idle timers, and an ABSENT lane with its eyes at either level. -/
theorem witness_IgnoredEventsLetTimePass :
    (4 < 5 ∧ 49 < 50 ∧ 9999 < 10000) ∧ State.reset.pst.geometry = none
    ∧ (withLtk base (fun k => { k with armed := false })).ltk.armed = false
    ∧ (let s := withLtk base (fun k => { k with loop := .unsynced, resyncRequired := true });
      s.ltk.loop = .unsynced ∧ s.ltk.resyncRequired = true ∧ s.ltk.resyncPending = false)
    ∧ State.reset.ltk.stall = none ∧ (∀ a b, (base.lane 0).state ≠ .releasing a b) ∧ (base.link 1).live = none
    ∧ (State.reset.lane 0).state = .absent ∧ State.reset.lines.lengthEye.get 0 = false
    ∧ State.reset.lines.holdEye.get 0 = false ∧ (withEye State.reset 0).lines.lengthEye.get 0 = true
    ∧ (withHold State.reset 0).lines.holdEye.get 0 = true ∧ ((withHold State.reset 0).lane 0).state = .absent := by
  have h : (base.lane 0).state = .paused := by decide +kernel
  refine ⟨by decide, rfl, rfl, by decide +kernel, rfl, fun a b e => ?_, by decide +kernel⟩
  rw [h] at e; cases e

/-- Counts with and without a pitch event. -/
theorem witness_CountAdvancesThePosition :
    base.pst.geometry = some geo ∧ 5 ≤ 5 ∧ base.nextQ geo % 16 ≠ 0 ∧ pitching.pst.geometry = some geo
    ∧ pitching.nextQ geo % 16 = 0 ∧ pitching.nextQ geo = 96
    ∧ (let s := withLtk base (fun k => { k with loop := .stopped })
       s.ltk.loop = .stopped ∧ told (.encoderCount (at_ 1) 5 []) s (.state .stopped .crawling .motion) = true)
    ∧ (after (.encoderCount (at_ 1) 5 []) base).ltk.loop = base.ltk.loop := by decide +kernel

/-- Withheld by a span of 1; nothing due in RUNNING, at a pitch event that passes too; nothing due in UNSYNCED, nor in
STOPPED. -/
theorem witness_QuietCountTouchesTheTrackerAlone :
    (let s := withLtk base (fun k => { k with recount := 1 });
      s.pst.geometry = some geo ∧ 5 ≤ 5 ∧ 0 < geo.c ∧ geo.sChk < geo.n * geo.c ∧ s.CuesAtRest
      ∧ s.nextQ geo % geo.c ≠ 0 ∧ 0 < s.ltk.recount)
    ∧ (pitching.PitchPasses geo (at_ 320000) ∧ pitching.nextQ geo % geo.c = 0 ∧ (∀ t, ¬ geo.centreAt t (pitching.nextQ geo))
      ∧ ∀ l, pitching.laneQuietAt (pitching.nextQ geo) l)
    ∧ ((withLtk base (fun k => { k with loop := .stopped })).CuesAtRest ∧ base.nextQ geo % geo.c ≠ 0 ∧ (∀ t, ¬ geo.centreAt t (base.nextQ geo))
      ∧ ∀ l, base.laneQuietAt (base.nextQ geo) l)
    ∧ (let s := withLtk base (fun k => { k with loop := .unsynced });
      s.ltk.loop = .unsynced ∧ s.nextQ geo % geo.c ≠ 0 ∧ ∀ l, s.laneQuietAt (s.nextQ geo) l) := by
  refine ⟨⟨rfl, by decide, by decide, by decide, fun h => (by cases h), by decide, by decide⟩,
    ⟨passes_of rfl rfl rfl (by decide) fun k => .inl ?_, by decide, fun t => ?_, fun l => quiet_of ?_⟩,
    ⟨cues_of (by decide +kernel), by decide, fun t => ?_, fun l => quiet_of ?_⟩,
    by decide, by decide, fun l => quiet_of ?_⟩
  · revert k; decide +kernel
  · exact no_centre (q := 96) (by decide) t
  · revert l; decide +kernel
  · exact no_centre (q := 101) (by decide) t
  · revert l; decide +kernel
  · revert l; decide +kernel

/-- The average at P_slow and one above it, three intervals in CRAWLING and RUNNING, UNSYNCED, and NC − C. -/
theorem witness_PitchEventMovesTheLoopBySpeed :
    let s := withLtk pitching (fun k => { k with history := [1000000, 1000000, 1000000] })
    let u := withLtk pitching (fun k => { k with history := [320000, 320000] })
    let v := withLtk u (fun k => { k with loop := .crawling })
    let w := withLtk pitching (fun k => { k with q := 1007 })
    s.pst.geometry = some geo ∧ 5 ≤ 5 ∧ s.nextQ geo % geo.c = 0 ∧ s.nextQ geo ≠ geo.c ∧ s.ltk.loop ≠ .unsynced
    ∧ s.pitchHistory 1000000 = [1000000, 1000000, 1000000, 1000000]
    ∧ (1000000 + 1000000 + 1000000 + 1000000 + 2) / 4 ≤ geo.pSlow
    ∧ s.pitchHistory 1000002 = [1000000, 1000000, 1000000, 1000002]
    ∧ geo.pSlow < (1000000 + 1000000 + 1000000 + 1000002 + 2) / 4
    ∧ (u.pitchHistory 9).length ≠ 4 ∧ u.ltk.loop = .running ∧ (v.pitchHistory 9).length ≠ 4 ∧ v.ltk.loop = .crawling
    ∧ (withLtk s (fun k => { k with loop := .unsynced })).ltk.loop = .unsynced
    ∧ w.nextQ geo = geo.n * geo.c - geo.c ∧ w.nextQ geo % geo.c = 0 := by decide +kernel

/-- Its overspeed clauses: an average at 40,000 and one below, armed, with places for OVERSPEED and for STATE before
it; and a pitch event that posts none. -/
theorem witness_PitchEvent_overspeed :
    let a := withLtk pitching (fun k => { k with history := [40000, 40000, 40000] })
    let b := withLtk pitching (fun k => { k with history := [39999, 39999, 39999] })
    let c := withQueue (withLtk b (fun k => { k with loop := .stopped })) 0 30
    a.pitchHistory 40000 = [40000, 40000, 40000, 40000] ∧ (40000 + 40000 + 40000 + 40000 + 2) / 4 = 40000
    ∧ b.pitchHistory 39999 = [39999, 39999, 39999, 39999] ∧ (39999 + 39999 + 39999 + 39999 + 2) / 4 < 40000
    ∧ b.ltk.overspeedArmed = true ∧ b.masters 0 ∧ ((withQueue b 0 31).link 0).queue.length + 0 < 32
    ∧ c.ltk.loop = .stopped ∧ (c.link 0).queue.length + [Notice.state .stopped .crawling .motion].length < 32
    ∧ a.overspeedAt 40000 = [] := by unfold State.masters; decide +kernel

/-- A tracking lane of the running loop: tray 5 RESERVED by lane 0, tray 6 earmarked to lane 1. -/
def tracker : Solution :=
  { tray := 5, partner := none, offset := 8, merge := 188, lead := 60, launch := 128, dist := 28 }
def claiming : State :=
  withTray ((withHold (withLane base 0 (fun ln => { ln with state := .tracking tracker, records := [.atHold small] })) 0
    ).putTray 6 (.free (some 1))) 5 (.reserved 0 none false)

/-- A loss of speed at Q = 96: lane 0 gives up its claim on tray 5, with and without a fault due; and a gain of speed. -/
theorem witness_PitchEvent_speed :
    let s := withLtk claiming (fun k => { k with q := 95, history := [1000000, 1000000, 1000000] })
    let f := withLane s 0 (fun ln => { ln with overfillDue := true })
    let c : Instr := .encoderCount (at_ 1000002) 5 []
    s.losesSpeed geo (at_ 1000002) ∧ geo.InRange ∧ s.pst.geometry = some geo ∧ s.nextQ geo % geo.c = 0
    ∧ s.nextQ geo ≠ geo.c ∧ (s.lane 0).state.solution? = some tracker ∧ s.tray 5 = .reserved 0 none false
    ∧ ¬ geo.centreAt 5 (s.nextQ geo) ∧ (s.lane 0).inflight = []
    ∧ told c s (.state .running .crawling .speed) = true
    ∧ told c s (.claimReleased 0 .loopNotRunning (some 5) none .waiting) = true
    ∧ told c f (.laneFault 0 .overfill 1 (some 7) [] none) = true
    ∧ told (.encoderCount (at_ 320000) 5 []) (withLtk pitching (fun k => { k with loop := .crawling }))
        (.state .crawling .running .speed) = true := by
  refine ⟨⟨rfl, _, _, _, _, rfl, by decide⟩, geo_inRange, rfl, rfl, by decide, by decide +kernel, by decide +kernel,
    no_centre (q := 96) (by decide) 5, by decide +kernel, by decide +kernel⟩

/-- A stall, a missing marker and a RESYNC tell the release of lane 0's claim. -/
theorem witness_Release_notices :
    told (.stallTimerExpiry (at_ 1)) claiming (.claimReleased 0 .loopNotRunning (some 5) none .waiting) = true
    ∧ told (.resync (at_ 1) 0 9) claiming (.claimReleased 0 .loopNotRunning (some 5) none .waiting) = true
    ∧ (let s := withLtk claiming (fun k => { k with q := 15, windowOpen := true, history := [1000000, 1000000, 1000000] })
       s.losesSpeed geo (at_ 1000002) ∧ ¬ s.losesSpeed geo (at_ 1000000)
       ∧ told (.encoderCount (at_ 1000000) 5 []) s (.claimReleased 0 .slip (some 5) none .waiting) = true
       ∧ told (.encoderCount (at_ 1000002) 5 []) s (.claimReleased 0 .loopNotRunning (some 5) none .waiting) = true) := by
  refine ⟨by decide +kernel, by decide +kernel, ⟨rfl, _, _, _, _, rfl, by decide⟩, ?_, by decide +kernel, by decide +kernel⟩
  rintro ⟨-, i1, i2, i3, i4, h, h'⟩
  cases h
  exact absurd h' (by decide)

theorem witness_StallEndsTheMovement :
    (let s := withLtk base (fun k => { k with loop := .unsynced });
      s.ltk.stall = some 0 ∧ s.ltk.loop = .unsynced)
    ∧ (withLtk base (fun k => { k with loop := .crawling })).ltk.loop = .crawling
    ∧ claiming.ltk.stall = some 0 ∧ claiming.ltk.loop = .running
    ∧ (¬ (withQueue claiming 0 31).unbound 0 ∧ ((withQueue claiming 0 31).link 0).queue.length < 32)
    ∧ (claiming.lane 0).state.solution? = some tracker ∧ 5 ∈ tracker.trays ∧ claiming.tray 5 = .reserved 0 none false
    ∧ (claiming.lane 1).state.solution? = none ∧ claiming.tray 6 = .free (some 1)
    ∧ (∀ l x, (claiming.lane l).state.solution? = some x → 6 ∉ x.trays) := by
  have h : ∀ l, (claiming.lane l).state.solution? = none ∨ (claiming.lane l).state.solution? = some tracker := by
    decide +kernel
  refine ⟨by decide +kernel, by decide, by decide +kernel, by decide +kernel,
    ⟨by unfold State.unbound; decide +kernel, by decide +kernel⟩, by decide +kernel, by decide, by decide +kernel,
    by decide +kernel, by decide +kernel, fun l x hx => ?_⟩
  rcases h l with e | e <;> rw [e] at hx <;> cases hx
  decide

/-- Q at the tolerance of 4, and at 0. -/
theorem witness_CleanMarkerMovesQBack :
    let s := withLtk base (fun k => { k with q := 4 })
    s.pst.geometry = some geo ∧ 50 ≤ 50 ∧ s.ltk.loop ≠ .unsynced ∧ s.ltk.armed = true ∧ s.ltk.q ≤ geo.slipTol
    ∧ 2 * s.ltk.q + 1 < geo.n * geo.c ∧ (withLtk base (fun k => { k with q := 0 })).ltk.q = 0 := by decide +kernel

/-- Q at 4 before the ring's end, with averages that move the loop each way and leave it. -/
theorem witness_CleanMarkerMovesQForward :
    let s := withLtk base (fun k => { k with q := 1020, history := [1000000, 1000000, 1000000] })
    let c := withLtk s (fun k => { k with loop := .crawling })
    geo.InRange ∧ s.pst.geometry = some geo ∧ 50 ≤ 50 ∧ s.ltk.loop = .running ∧ c.ltk.loop = .crawling
    ∧ s.ltk.armed = true ∧ s.ltk.q < geo.n * geo.c ∧ geo.n * geo.c - s.ltk.q ≤ geo.slipTol
    ∧ s.ltk.historyAt 1000000 = [1000000, 1000000, 1000000, 1000000]
    ∧ (1000000 + 1000000 + 1000000 + 1000000 + 2) / 4 ≤ geo.pSlow
    ∧ c.ltk.historyAt 1000002 = [1000000, 1000000, 1000000, 1000002]
    ∧ geo.pSlow < (1000000 + 1000000 + 1000000 + 1000002 + 2) / 4
    ∧ (withLtk s (fun k => { k with loop := .stopped })).ltk.loop = .stopped :=
  ⟨geo_inRange, by decide +kernel⟩

/-- The loop short of the ring's end, lane 0 at work, its hold eye blocked. -/
def forward (q : Nat) (f : Lane → Lane) : State := withHold (withLane (withLtk base (fun k => { k with q := q })) 0 f) 0

theorem forward_marker {q : Nat} {f : Lane → Lane} (h : 1020 ≤ q) (h' : q < 1024) : (forward q f).ForwardMarker geo 50 :=
  ⟨rfl, geo_inRange, by decide, (by decide : LoopState.running ≠ .unsynced), rfl, h', by show 1024 - q ≤ 4; omega⟩

/-- From Q = 1,021 no tray's centre passes. -/
theorem forward_passes_no_centre {f : Lane → Lane} (q t : Nat) (h : (forward 1021 f).onWay geo q) :
    ¬ geo.centreAt t q := by
  have h' : (1021 < q ∧ q < 1024) ∨ q = 0 := h
  exact no_centre (by omega) t

theorem forward_others {q : Nat} {f : Lane → Lane} {k : LaneId} (h : k ≠ 0) :
    (forward q f).atRest k ∧ ∀ p, (forward q f).onWay geo p → (forward q f).laneQuietAt p k := by
  have e : (forward q f).lane k = base.lane k := by
    show ((withLtk base _).modLane 0 f).lane k = _
    rw [State.lane_modLane, if_neg h]; rfl
  have hs : ∀ k, (base.lane k).state = .paused := by decide +kernel
  have hi : ∀ k, (base.lane k).inflight = [] := by decide +kernel
  exact ⟨.inr (.inl (by rw [e, hs])), fun p _ => ⟨fun x hx => (by rw [e, hs] at hx; cases hx),
    fun x hx => (by rw [e, hi] at hx; cases hx)⟩⟩

/-- A launch point at 1,022 and at 0, with an average at which the loop runs, and a merge position that is not on the
way; a flight that lands at 1,022, and one behind it that does not; tray 63, whose centre passes at 1,021, FREE and
UNVERIFIED; and a span of 1. -/
theorem witness_ForwardCorrectionOffersTheWay :
    (let s := forward 1021 (fun ln => { ln with
        state := .committed { tracker with launch := 1022, merge := 500 }, records := [.atHold small] })
     s.ForwardMarker geo 50 ∧ s.ltk.recount = 0 ∧ (∀ q t, s.onWay geo q → ¬ geo.centreAt t q)
     ∧ (∀ k, k ≠ 0 → s.atRest k ∧ ∀ q, s.onWay geo q → s.laneQuietAt q k)
     ∧ (s.lane 0).state = .committed { tracker with launch := 1022, merge := 500 } ∧ s.onWay geo 1022
     ∧ s.onWay geo 0 ∧ ¬ s.onWay geo 500
     ∧ s.ltk.historyAt 320000 = [320000, 320000, 320000, 320000] ∧ (320000 + 320000 + 320000 + 320000 + 2) / 4 ≤ geo.pSlow
     ∧ (s.lane 0).inflight = [] ∧ (s.lane 0).records = .atHold small :: [] ∧ s.holdBlocked 0 = true
     ∧ s.holdsLane 0 0 ∧ (s.link 0).queue.length < 32)
    ∧ (let e : InFlight := { tray := 3, partner := none, ticket := none, length := 100, merge := 1022, holdClear := true }
       let s := forward 1021 (fun ln => { ln with inflight := [e, { e with merge := 500 }] })
       s.ForwardMarker geo 50 ∧ s.ltk.recount = 0 ∧ (∀ q t, s.onWay geo q → ¬ geo.centreAt t q)
       ∧ (∀ k, k ≠ 0 → s.atRest k ∧ ∀ q, s.onWay geo q → s.laneQuietAt q k) ∧ (s.lane 0).state.solution? = none
       ∧ (s.lane 0).inflight = e :: [{ e with merge := 500 }] ∧ s.onWay geo e.merge ∧ ¬ s.onWay geo 500
       ∧ 0 < signedDistance (geo.n * geo.c) e.merge 500)
    ∧ (let s := forward 1020 id
       s.ForwardMarker geo 50 ∧ s.ltk.recount = 0 ∧ (∀ k, k ≠ 0 → s.atRest k ∧ ∀ q, s.onWay geo q → s.laneQuietAt q k)
       ∧ (s.lane 0).state = .paused ∧ (s.lane 0).inflight = [] ∧ s.onWay geo 1021 ∧ 63 < geo.n ∧ geo.centreAt 63 1021
       ∧ s.tray 63 = .free none ∧ (withTray s 63 (.unverified true)).tray 63 = .unverified true
       ∧ s.eyeAfter [] = false ∧ s.eyeAfter occupied = true ∧ 63 < s.tmap.length)
    ∧ 0 < (withLtk (forward 1020 id) (fun k => { k with recount := 1 })).ltk.recount := by
  refine ⟨⟨forward_marker (by decide) (by decide), ?_, forward_passes_no_centre, fun k h => forward_others h, ?_, ?_, ?_,
      ?_, ?_, ?_, ?_, ?_, ?_, holds_of ?_, ?_⟩,
    ⟨forward_marker (by decide) (by decide), ?_, forward_passes_no_centre, fun k h => forward_others h, ?_, ?_, ?_, ?_, ?_⟩,
    ⟨forward_marker (by decide) (by decide), ?_, fun k h => forward_others h, ?_, ?_, ?_, ?_, ?_, ?_, ?_, ?_, ?_, ?_⟩, ?_⟩
  all_goals first
    | decide +kernel
    | (unfold State.onWay; decide +kernel)
    | (unfold Geometry.centreAt; decide +kernel)

/-- The claiming loop with a flight of lane 1 on tray 3. -/
def flying : State :=
  let e : InFlight := { tray := 3, partner := none, ticket := none, length := 100, merge := 500, holdClear := false }
  withTray (withLane claiming 1 (fun ln => { ln with inflight := [e] })) 3
    (.launched { holder := 1, ticket := none, length := 100 } none true)

/-- d = 5 and d = −5, just outside the tolerance, and the half turn; a first and a second failure. -/
theorem witness_SlipTakesTheSlipActions :
    let s := withLtk flying (fun k => { k with q := 5 })
    let b := withLtk flying (fun k => { k with q := 1019, slips := 1 })
    let h := withLtk flying (fun k => { k with q := 512 })
    s.pst.geometry = some geo ∧ 50 ≤ 50 ∧ s.ltk.loop ≠ .unsynced ∧ s.ltk.armed = true ∧ s.ltk.q < geo.n * geo.c
    ∧ (2 * s.ltk.q + 1 < geo.n * geo.c ∧ (5 : Int) = s.ltk.q) ∧ geo.slipTol < (5 : Int).natAbs ∧ s.ltk.slips = 0
    ∧ (geo.n * geo.c ≤ 2 * b.ltk.q ∧ (-5 : Int) = (b.ltk.q : Int) - (geo.n * geo.c : Nat)) ∧ b.ltk.slips = 1
    ∧ geo.n * geo.c ≤ 2 * h.ltk.q ∧ (s.lane 0).state.solution? = some tracker ∧ s.tray 5 = .reserved 0 none false
    ∧ (s.lane 1).state.solution? = none ∧ (s.lane 1).inflight.length = 1
    ∧ s.tray 3 = .launched { holder := 1, ticket := none, length := 100 } none true := by decide +kernel

/-- Link 0 hears each notice of a first and of a second failure, and has room after it. -/
theorem witness_Slip_notices :
    let b := withLtk flying (fun k => { k with q := 1019, slips := 1 })
    let c := withLtk flying (fun k => { k with q := 15, windowOpen := true, slips := 1 })
    (∀ n ∈ [Notice.slip (-5), .markerMissing, .positionUntrusted, .state .running .unsynced .escalation,
        .claimReleased 0 .slip (some 5) none .waiting, .unverified 3 none .slip 1 none],
      b.hears 0 n ∧ c.hears 0 n)
    ∧ ((after (.homePulse (at_ 1) 50 []) b).link 0).queue.length < 32
    ∧ ((after (.encoderCount (at_ 1) 5 []) c).link 0).queue.length < 32 := by
  refine ⟨fun n hn => ⟨hears_of ?_, hears_of ?_⟩, ?_, ?_⟩
  · revert n; decide +kernel
  · revert n; decide +kernel
  · decide +kernel
  · decide +kernel

theorem witness_MissingMarkerIsFoundAtC :
    let s := withLtk flying (fun k => { k with q := 15, windowOpen := true })
    geo.InRange ∧ s.pst.geometry = some geo ∧ 5 ≤ 5 ∧ s.ltk.loop ≠ .unsynced ∧ s.nextQ geo = geo.c
    ∧ s.ltk.windowOpen = true ∧ s.ltk.slips = 0 ∧ (withLtk s (fun k => { k with slips := 1 })).ltk.slips = 1 :=
  ⟨geo_inRange, by decide +kernel⟩

/-- After power-up, and after an escalation and a RESYNC; the stall timer running and idle. -/
theorem witness_SynchronisingMarkerSetsThePosition :
    let s := withLtk base (fun k => { k with loop := .unsynced })
    let r := withLtk s (fun k => { k with resyncRequired := true, resyncPending := true, stall := none })
    s.pst.geometry = some geo ∧ 50 ≤ 50 ∧ s.ltk.loop = .unsynced ∧ s.ltk.armed = true ∧ s.ltk.resyncRequired = false
    ∧ s.ltk.stall.isSome = true ∧ s.ltk.resyncPending = false ∧ r.ltk.resyncPending = true ∧ r.ltk.stall = none
    ∧ r.hears 0 .resyncDone ∧ s.hears 0 (.state .unsynced .crawling .marker)
    ∧ ((after (.homePulse (at_ 1) 50 []) r).link 0).queue.length < 32
    ∧ ((after (.homePulse (at_ 1) 50 []) s).link 0).queue.length < 32 := by
  refine ⟨?_, ?_, ?_, ?_, ?_, ?_, ?_, ?_, ?_, hears_of ?_, hears_of ?_, ?_, ?_⟩ <;> decide +kernel

/-- An exact marker, with an automatic lane whose share is 0, whose share is not, and lanes named in no slot. -/
theorem witness_TakenMarkerRaisesARevolution :
    let a := withLtk (withLane base 0 (fun ln => { ln with copy := { ln.copy with mode := .auto } })) (fun k =>
      { k with q := 0 })
    let s := { a with csm := { a.csm with fRev := 9 }, eal := { a.eal with rotation := [0, 3] } }
    geo.InRange ∧ s.pst.geometry = some geo ∧ 50 ≤ 50 ∧ s.ltk.armed = true ∧ s.ltk.loop ≠ .unsynced ∧ s.ltk.q = 0
    ∧ (s.lane 0).mode ≠ .absent ∧ (s.lane 0).copy.mode = .auto
    ∧ (∃ k ∈ s.eal.rotation, (s.lane k).mode ≠ .absent) ∧ s.eal.rotation.count 0 = 1
    ∧ (s.eal.rotation.filter (fun k => (s.lane k).mode ≠ .absent)).length = 2
    ∧ min (s.share 0).reload (s.csm.fRev * 1 / 2) = 4 ∧ min (a.share 0).reload (a.csm.fRev * 1 / 8) = 0
    ∧ (∀ k ∈ a.eal.rotation, (a.lane k).mode = .absent)
    ∧ (allLanes.filter (fun k => (a.lane k).mode ≠ .absent)).length = 8
    ∧ (s.link 0).planner = true ∧ ((withQueue s 0 31).link 0).queue.length < 32 ∧ (s.link 1).planner = false
    ∧ ((after (.homePulse (at_ 1) 50 []) s).link 0).queue.length < 32 :=
  ⟨geo_inRange, by decide +kernel⟩

/-! ### Witnesses: the check station -/

theorem centre_six : geo.centreAt 6 109 := by unfold Geometry.centreAt; decide

theorem sampling_samples {s : State} (hg : s.pst.geometry = some geo) (hq : s.ltk.q = 108) (hl : s.ltk.loop = .running)
    (hr : s.ltk.recount = 0) (hw : ∀ l, quietB s 109 l = true) : s.Samples geo (at_ 1) 5 6 := by
  have h : s.nextQ geo = 109 := by rw [State.nextQ, hq]; decide
  exact samples_of hg hl hr (by decide) (by rw [h]; exact centre_six) (by rw [h]; decide) (by rw [h]; exact hw)

/-- A load of lane 0. -/
def load0 : LaneLoad := { holder := 0, ticket := none, length := 300 }

/-- The four trays left as they are; a FREE tray without an earmark, with one of lane 2, in CRAWLING, and with no lane
to grant it to; the check eye clear and occupied. -/
theorem witness_SampleDecidesAFreeTrayAndLeavesTraysInUse :
    (let s := sampling (.reserved 0 none false)
     s.Samples geo (at_ 1) 5 6 ∧ s.tray 6 = .reserved 0 none false ∧ s.eyeAfter [⟨true, 49⟩] = false)
    ∧ (let s := sampling (.launched load0 none false); s.Samples geo (at_ 1) 5 6 ∧ s.tray 6 = .launched load0 none false)
    ∧ (let s := sampling .disabled; s.Samples geo (at_ 1) 5 6 ∧ s.tray 6 = .disabled)
    ∧ (let s := sampling (.loaded (some load0) (some ⟨5, .trail⟩) 0 true false)
       s.Samples geo (at_ 1) 5 6 ∧ s.tray 6 = .loaded (some load0) (some ⟨5, .trail⟩) 0 true false)
    ∧ (let s := sampling (.free none)
       s.Samples geo (at_ 1) 5 6 ∧ s.tray 6 = .free none ∧ s.nobodyEligible ∧ s.eyeAfter [] = false
       ∧ s.eyeAfter [⟨true, 50⟩] = true)
    ∧ (let s := sampling (.free (some 2)); s.Samples geo (at_ 1) 5 6 ∧ s.tray 6 = .free (some 2))
    ∧ (withLtk (sampling (.free none)) (fun k => { k with loop := .crawling })).ltk.loop = .crawling := by
  have h : (sampling (.free none)).eal.rotation = [] := by decide +kernel
  refine ⟨⟨sampling_samples ?_ ?_ ?_ ?_ ?_, ?_⟩, ⟨sampling_samples ?_ ?_ ?_ ?_ ?_, ?_⟩,
    ⟨sampling_samples ?_ ?_ ?_ ?_ ?_, ?_⟩, ⟨sampling_samples ?_ ?_ ?_ ?_ ?_, ?_⟩,
    ⟨sampling_samples ?_ ?_ ?_ ?_ ?_, ?_, fun l hl => (by rw [h] at hl; cases hl), ?_⟩,
    ⟨sampling_samples ?_ ?_ ?_ ?_ ?_, ?_⟩, ?_⟩ <;> decide +kernel

/-- Slots [3, 1] from position 1: lane 1 at slot 1 has nothing on its belt, so lane 3 at slot 0 is granted. -/
def granting (e : Tray) : State :=
  let s := withLane (sampling e) 3 (fun ln => { ln with state := .waiting, records := [.atHold small] })
  let s := withLane s 1 (fun ln => { ln with state := .idle })
  { s with eal := { s.eal with rotation := [3, 1], position := 1 } }

theorem granting_walkFinds (e : Tray) : (granting e).walkFinds 0 3 := by
  have h3 : ((granting e).lane 3).state = .waiting := rfl
  have h1 : ((granting e).lane 1).records = [] := rfl
  have before : ∀ j k, j < 1 →
      (granting e).eal.rotation[((granting e).eal.position + j) % (granting e).eal.rotation.length]? = some k →
      ¬ (granting e).mayBeGranted k := by
    intro j k hj hk he
    obtain rfl : j = 0 := by omega
    obtain rfl : 1 = k := Option.some.inj hk
    exact he.2.2.2.2.1 h1
  exact ⟨1, (by decide : 1 < 2), (by decide : 0 = (1 + 1) % 2), rfl,
    ⟨(by decide : LaneMode.auto ≠ .absent), (by rw [h3]; nofun), (by rw [h3]; nofun), fun r => (by rw [h3]; nofun),
      (by decide : [ParcelRecord.atHold small] ≠ []), (by decide : 0 < 1024), (by decide : 0 < 2)⟩, before⟩

/-- A FREE tray, an UNVERIFIED one, and one BLOCKED with a streak of 1. -/
theorem witness_HandOverGrantsTheFirstEligibleSlot :
    (∀ e, (granting e).walkFinds 0 3) ∧ (granting (.free none)).eyeAfter [] = false
    ∧ 6 < (granting (.free none)).tmap.length ∧ (granting (.free none)).ltk.loop = .running
    ∧ ((granting (.free none)).Samples geo (at_ 1) 5 6 ∧ (granting (.free none)).tray 6 = .free none)
    ∧ ((granting (.unverified false)).Samples geo (at_ 1) 5 6 ∧ (granting (.unverified false)).tray 6 = .unverified false)
    ∧ ((granting (.blocked 1 .ghost)).Samples geo (at_ 1) 5 6 ∧ (granting (.blocked 1 .ghost)).tray 6 = .blocked 1 .ghost) := by
  refine ⟨granting_walkFinds, ?_, ?_, ?_, ⟨sampling_samples ?_ ?_ ?_ ?_ ?_, ?_⟩,
    ⟨sampling_samples ?_ ?_ ?_ ?_ ?_, ?_⟩, sampling_samples ?_ ?_ ?_ ?_ ?_, ?_⟩ <;> decide +kernel

/-- A tracking lane's tray 6, alone, as the LEAD of a pair and as its TRAIL, with a link that holds DISCHARGE alone. -/
def revoking (partner : Option Nat) (pair : Option Partner) (d : Bool) : State :=
  withQueue (withLink (withLane (sampling (.reserved 0 pair d)) 0 (fun ln => { ln with
    state := .tracking { tracker with tray := 6, partner := partner }, records := [.atHold long] })) 1 (fun k =>
    { k with discharge := true })) 1 31

theorem revoking_samples (partner : Option Nat) (pair : Option Partner) : (revoking partner pair false).Samples geo (at_ 1) 5 6 := by
  refine sampling_samples rfl rfl rfl rfl fun l => ?_
  by_cases h : l = 0
  · subst h; rfl
  · have e : (revoking partner pair false).lane l = base.lane l := by
      show ((sampling (.reserved 0 pair false)).modLane 0 (fun ln => { ln with
        state := .tracking { tracker with tray := 6, partner := partner }, records := [.atHold long] })).lane l = _
      rw [State.lane_modLane, if_neg h]; rfl
    have hs : ∀ l, (base.lane l).state = .paused ∧ (base.lane l).inflight = [] := by decide +kernel
    simp [quietB, e, hs]

theorem witness_SampleRevokesAReservedTray :
    (let s := revoking none none false
     s.Samples geo (at_ 1) 5 6 ∧ s.tray 6 = .reserved 0 none false ∧ s.eyeAfter occupied = true
     ∧ (s.lane 0).state.solution? = some { tracker with tray := 6, partner := none }
     ∧ (s.link 1).discharge = true ∧ (s.link 1).planner = false ∧ (s.link 1).window = none
     ∧ (s.link 1).queue.length < 32)
    ∧ (let s := withTray (revoking (some 7) (some ⟨7, .lead⟩) false) 7 (.reserved 0 (some ⟨6, .trail⟩) true)
       (revoking (some 7) (some ⟨7, .lead⟩) false).Samples geo (at_ 1) 5 6 ∧ s.tray 6 = .reserved 0 (some ⟨7, .lead⟩) false
       ∧ s.tray 7 = .reserved 0 (some ⟨6, .trail⟩) true
       ∧ ∀ y, (some ⟨7, .lead⟩ : Option Partner) = some y → y.tray ≠ 6)
    ∧ (let s := withTray (revoking (some 5) (some ⟨5, .trail⟩) false) 5 (.reserved 0 (some ⟨6, .lead⟩) true)
       (revoking (some 5) (some ⟨5, .trail⟩) false).Samples geo (at_ 1) 5 6 ∧ s.tray 6 = .reserved 0 (some ⟨5, .trail⟩) false
       ∧ s.tray 5 = .reserved 0 (some ⟨6, .lead⟩) true
       ∧ ∀ y, (some ⟨5, .trail⟩ : Option Partner) = some y → y.tray ≠ 6) := by
  refine ⟨⟨revoking_samples _ _, ?_⟩, ⟨revoking_samples _ _, ?_, ?_, fun y h => (by cases h; decide)⟩,
    revoking_samples _ _, ?_, ?_, fun y h => (by cases h; decide)⟩ <;> decide +kernel

/-- The loop whose tray 6 is at the check station at Q = 112, where a pitch event falls; lane 3 IDLE with a parcel on its
belt, the others at rest; lane 3 alone in the rotation. -/
def geo8 : Geometry := { geo with sChk := 8 }
def together (e : Tray) : State :=
  let s := withLane (withTray (withLtk (onLoop geo8) (fun k => { k with q := 111 })) 6 e) 3 (fun ln =>
    { ln with state := .idle, records := [.onBelt small] })
  { s with eal := { s.eal with rotation := [3] } }

theorem together_samples (e : Tray) (h : e = .free none ∨ e = .loaded none none 2 true false ∨ e = .blocked 1 .ghost
    ∨ e = .reserved 1 none false) : (together e).Samples geo8 (at_ 320000) 5 6 := by
  refine ⟨⟨rfl, by decide, by decide, (by decide : LoopState.running ≠ .unsynced), rfl, by decide, ?_, .inr rfl⟩,
    fun h => (by cases h), fun _ => passes_of rfl rfl rfl (by decide) ?_, fun l => quiet_of ?_⟩
  · exact (by unfold Geometry.centreAt; decide : geo8.centreAt 6 112)
  · rcases h with rfl | rfl | rfl | rfl <;> decide +kernel
  · revert l; rcases h with rfl | rfl | rfl | rfl <;> decide +kernel

theorem together_passes (e : Tray) : (together e).PassesCentre geo8 5 6 :=
  ⟨rfl, by decide, by decide, (by decide : LoopState.running ≠ .unsynced), rfl, by decide,
    (by unfold Geometry.centreAt; decide : geo8.centreAt 6 112), .inr rfl⟩

/-- A sample and a pitch event at one count, for the trays above; the slot of an eligible lane; and a sample from STOPPED,
every cue as it is there. -/
theorem witness_Samples_at_a_pitch_event :
    (together (.free none)).nextQ geo8 % geo8.c = 0 ∧ (together (.free none)).walkFinds 0 3
    ∧ (∀ e, e = .free none ∨ e = .loaded none none 2 true false ∨ e = .blocked 1 .ghost ∨ e = .reserved 1 none false →
      (together e).Samples geo8 (at_ 320000) 5 6)
    ∧ (∀ e, (together e).PassesCentre geo8 5 6) ∧ 6 < (together (.free none)).tmap.length
    ∧ (let s := withLtk (sampling (.free none)) (fun k => { k with loop := .stopped, history := [] })
       s.CuesAtRest ∧ s.ltk.loop = .stopped ∧ s.nobodyEligible) := by
  have h3 : ((together (.free none)).lane 3).state = .idle := rfl
  have hr : (sampling (.free none)).eal.rotation = [] := by decide +kernel
  refine ⟨rfl, ⟨0, (by decide : 0 < 1), rfl, rfl, ⟨(by decide : LaneMode.auto ≠ .absent), (by rw [h3]; nofun),
      (by rw [h3]; nofun), fun r => (by rw [h3]; nofun), (by decide : [ParcelRecord.onBelt small] ≠ []),
      (by decide : 0 < 1024), (by decide : 0 < 2)⟩, fun j k hj => absurd hj (Nat.not_lt_zero j)⟩,
    together_samples, together_passes, by decide, cues_of (by decide +kernel), rfl, fun l hl => ?_⟩
  exact absurd (hr ▸ hl : l ∈ []) List.not_mem_nil

/-- First pass pending and not; below the limit of 3, at it, and at 15; alone and as the LEAD of a pair. -/
theorem witness_SampleCountsALoadedTray :
    (let s := sampling (.loaded (some load0) none 2 true false)
     s.Samples geo (at_ 1) 5 6 ∧ s.tray 6 = .loaded (some load0) none 2 true false)
    ∧ (let s := sampling (.loaded none none 2 false true)
       s.Samples geo (at_ 1) 5 6 ∧ s.tray 6 = .loaded none none 2 false true ∧ 2 < 15 ∧ 2 + 1 = geo.recircLimit)
    ∧ (let s := sampling (.loaded none none 15 false true)
       s.Samples geo (at_ 1) 5 6 ∧ s.tray 6 = .loaded none none 15 false true)
    ∧ (let s := withTray (sampling (.loaded (some load0) (some ⟨7, .lead⟩) 0 true false)) 7
         (.loaded (some load0) (some ⟨6, .trail⟩) 0 true true)
       s.Samples geo (at_ 1) 5 6 ∧ s.tray 6 = .loaded (some load0) (some ⟨7, .lead⟩) 0 true false
       ∧ s.tray 7 = .loaded (some load0) (some ⟨6, .trail⟩) 0 true true ∧ 7 ≠ 6) := by
  refine ⟨⟨sampling_samples ?_ ?_ ?_ ?_ ?_, ?_⟩, ⟨sampling_samples ?_ ?_ ?_ ?_ ?_, ?_⟩,
    ⟨sampling_samples ?_ ?_ ?_ ?_ ?_, ?_⟩, sampling_samples ?_ ?_ ?_ ?_ ?_, ?_⟩ <;> decide +kernel

theorem witness_SampleDecidesAnUnknownTray :
    (let s := sampling (.unverified true); s.Samples geo (at_ 1) 5 6 ∧ 6 < s.tmap.length ∧ s.tray 6 = .unverified true)
    ∧ (let s := sampling (.unverified false)
       s.Samples geo (at_ 1) 5 6 ∧ s.tray 6 = .unverified false ∧ s.nobodyEligible)
    ∧ (let s := sampling (.blocked 0 .ghost); s.Samples geo (at_ 1) 5 6 ∧ s.tray 6 = .blocked 0 .ghost)
    ∧ (let s := sampling (.blocked 1 .reservedGhost); s.Samples geo (at_ 1) 5 6 ∧ s.tray 6 = .blocked 1 .reservedGhost) := by
  have h : (sampling (.unverified false)).eal.rotation = [] := by decide +kernel
  refine ⟨⟨sampling_samples ?_ ?_ ?_ ?_ ?_, ?_, ?_⟩,
    ⟨sampling_samples ?_ ?_ ?_ ?_ ?_, ?_, fun l hl => by rw [h] at hl; cases hl⟩,
    ⟨sampling_samples ?_ ?_ ?_ ?_ ?_, ?_⟩, sampling_samples ?_ ?_ ?_ ?_ ?_, ?_⟩ <;> decide +kernel

/-- A revoked claim is told, also where the fault that was due is what the lane comes to. -/
theorem witness_SampleRevokes_notices :
    told (.encoderCount (at_ 1) 5 occupied) (withQueue (revoking none none false) 0 3)
      (.claimReleased 0 .trayBlocked (some 6) none .waiting) = true
    ∧ told (.encoderCount (at_ 1) 5 occupied) (withLane (revoking none none false) 0 (fun ln =>
        { ln with overfillDue := true })) (.laneFault 0 .overfill 1 none [] none) = true := by decide +kernel

/-! ### Witnesses: the lane's feed -/

/-- Three records; an AUTO lane, a MANUAL lane at rest, one whose cue is PLACE, and one with no call. -/
theorem witness_LeadingEdgeBeginsARecord :
    let s := withLane base 0 (fun ln => { ln with state := .idle, records := List.replicate 3 (.onBelt small) })
    let w := withLane s 0 (fun ln => { ln with mode := .manual })
    let p := w.modPace 0 (fun x => { x with cue := .place })
    50 ≤ 50 ∧ s.lines.lengthEye.get 0 = false ∧ (s.lane 0).state ≠ .absent ∧ (s.lane 0).records.length < 4
    ∧ (s.lane 0).mode ≠ .manual ∧ (w.lane 0).mode = .manual ∧ ¬ w.atRest 0 ∧ p.ltk.loop = .running
    ∧ (p.paceOf 0).cue = .place ∧ ¬ p.atRest 0 ∧ (w.paceOf 0).cue ≠ .place
    ∧ (withLane w 0 (fun ln => { ln with state := .paused })).atRest 0 := by
  refine ⟨?_, ?_, ?_, ?_, ?_, ?_, not_rest_of ?_, ?_, ?_, not_rest_of ?_, ?_, rest_of ?_⟩ <;> decide +kernel

/-- A lane with a full list in each of the seven states it can be in. -/
def full (st : LaneState) : State :=
  withQueue (withLane base 0 (fun ln => { ln with state := st, records := List.replicate 4 (.onBelt small) })) 0 31

theorem witness_LeadingEdgeAtAFullListOverfills :
    (full .idle).lines.lengthEye.get 0 = false ∧ 4 ≤ ((full .idle).lane 0).records.length
    ∧ ((full .idle).lane 0).state = .idle ∧ ((full .waiting).lane 0).state = .waiting
    ∧ ((full .paused).lane 0).state = .paused ∧ ((full (.tracking tracker)).lane 0).state = .tracking tracker
    ∧ ((full (.committed tracker)).lane 0).state = .committed tracker
    ∧ ((full (.releasing 0 2000)).lane 0).state = .releasing 0 2000
    ∧ ((full (.faulted .jam)).lane 0).state = .faulted .jam ∧ ((full .idle).link 0).planner = true
    ∧ ((full .idle).link 0).queue.length < 32 := by decide +kernel

/-- A crossing of 33,000 µs at 1,500 mm/s is 50 mm, the minimum length, and one of 32,999 µs is 49 mm; with no
ticket, with seven tickets pending, with eight, and with no MEASURING record. -/
theorem witness_TrailingEdgeMeasuresTheParcel :
    let lane (tk : Option Ticket) (n : Nat) := withEye (withLane base 0 (fun ln => { ln with
      state := .idle, records := [.onBelt small] ++ [.measuring 0 tk], tickets := List.replicate n 1 })) 0
    let s := lane none 0
    let u (r : Micros) : State := { s.clock (at_ r) with lines := { s.lines with lengthEye := s.lines.lengthEye.set 0 false } }
    50 ≤ 50 ∧ s.lines.lengthEye.get 0 = true ∧ (s.lane 0).state ≠ .absent ∧ s.pst.geometry = some geo
    ∧ (s.lane 0).records = [.onBelt small] ++ [.measuring 0 none] ∧ (s.lane 0).copy.minLength = 50
    ∧ min (((((u 33000).lane 0).beltTime - 0).toNat * (s.lane 0).copy.vB + 500000) / 1000000) 65535 = 50
    ∧ min (((((u 32999).lane 0).beltTime - 0).toNat * (s.lane 0).copy.vB + 500000) / 1000000) 65535 = 49
    ∧ ((lane (some 7) 7).lane 0).records = [.onBelt small] ++ [.measuring 0 (some 7)]
    ∧ ((lane (some 7) 7).lane 0).tickets.length < 8
    ∧ ((lane (some 7) 8).lane 0).tickets = List.replicate 7 1 ++ [1] ∧ (List.replicate 7 (1 : Ticket)).length = 7
    ∧ (base.lane 0).records = [] := by decide +kernel

/-- A head on the belt, one at hold already, a REJECT, a MEASURING head and none; and a lane that is not IDLE. -/
theorem witness_HoldEyeBlockTakesTheHead :
    let s (rs : List ParcelRecord) := withLane base 0 (fun ln => { ln with state := .idle, records := rs })
    50 ≤ 50 ∧ (s []).holdBlocked 0 = false ∧ ((s []).lane 0).state = .idle ∧ ((s []).lane 0).overfillDue = false
    ∧ ((s []).lane 0).pausePending = false ∧ ((s [.onBelt small]).lane 0).records = .onBelt small :: []
    ∧ ((s [.atHold small]).lane 0).records = .atHold small :: [] ∧ small.disposition ≠ .reject
    ∧ ((s [.onBelt reject]).lane 0).records = .onBelt reject :: [] ∧ reject.disposition = .reject
    ∧ ((s []).lane 0).records = [] ∧ ((s [.measuring 0 none]).lane 0).records = .measuring 0 none :: []
    ∧ (base.lane 0).state ≠ .idle := by decide +kernel

/-- With no flight, with two, with the overfill fault due, with a pause pending, and outside RELEASING. -/
def releasing (es : List InFlight) (due pausing : Bool) : State :=
  withHold (withLane base 0 (fun ln => { ln with
    state := .releasing 0 2000, inflight := es, overfillDue := due, pausePending := pausing })) 0
def flight (clear : Bool) : InFlight :=
  { tray := 3, partner := none, ticket := none, length := 100, merge := 500, holdClear := clear }

theorem witness_HoldEyeClearEndsTheRelease :
    50 ≤ 50 ∧ (releasing [] false false).holdBlocked 0 = true
    ∧ ((releasing [] false false).lane 0).state = .releasing 0 2000 ∧ ((releasing [] false false).lane 0).inflight = []
    ∧ ((releasing [flight true, flight false] false false).lane 0).inflight = [flight true] ++ [flight false]
    ∧ ((releasing [] true false).lane 0).overfillDue = true ∧ ((releasing [] false true).lane 0).pausePending = true
    ∧ ((releasing [] false false).lane 0).overfillDue = false
    ∧ (∀ a b, ((withHold base 0).lane 0).state ≠ .releasing a b) := by
  have h : ((withHold base 0).lane 0).state = .paused := by decide +kernel
  refine ⟨?_, ?_, ?_, ?_, ?_, ?_, ?_, ?_, fun a b e => by rw [h] at e; cases e⟩ <;> decide +kernel

theorem witness_HoldClearTimeoutJamsTheLane :
    let s := withTray (releasing [flight true, flight false] true true) 3 (.launched load0 none true)
    (s.lane 0).state = .releasing 0 2000 ∧ (s.lane 0).inflight = [flight true] ++ [flight false]
    ∧ (flight false).holdClear = false ∧ 3 ∈ (flight false).trays ∧ s.tray 3 = .launched load0 none true
    ∧ ((releasing [flight true] true true).lane 0).inflight = [] ++ [flight true] ∧ (flight true).holdClear = true
    ∧ ((releasing [] true true).lane 0).inflight = [] := by decide +kernel

/-- The faults of a lane's feed and of its release are told: UNMEASURED, TOO_LONG, OVERFILL and JAM. -/
theorem witness_Feed_notices :
    let s (rs : List ParcelRecord) := withLane base 0 (fun ln => { ln with state := .idle, records := rs })
    told (.holdEyeBlocked (at_ 1) 50 0) (s []) (.laneFault 0 .unmeasured 0 none [] none) = true
    ∧ told (.holdEyeBlocked (at_ 1) 50 0) (s [.onBelt reject]) (.laneFault 0 .tooLong 1 none [] none) = true
    ∧ told (.holdEyeCleared (at_ 1) 50 0) (releasing [] true false) (.laneFault 0 .overfill 0 none [] none) = true
    ∧ told (.holdClearTimeout (at_ 1) 0) (releasing [flight false] true true) (.laneFault 0 .jam 0 none [3] none) = true
    ∧ told (.holdClearTimeout (at_ 1) 0) (releasing [flight false] true true) (.unverified 3 none .jam 0 none) = true
    ∧ told (.holdClearTimeout (at_ 1) 0) (releasing [flight true] true true) (.laneFault 0 .jam 0 none [] none) = true := by
  decide +kernel

/-! ### Witnesses: launches -/

/-- The last position of the ring, the guards 1 and 8, and a lead of sixteen pitches. -/
theorem witness_CandidateLiesAGuardAhead :
    geo.InRange ∧ 1023 < geo.n * geo.c ∧ 1 ≤ 1 ∧ 1 ≤ 8 ∧ 8 ≤ 8 ∧ 256 ≤ 16 * geo.c :=
  ⟨geo_inRange, by decide⟩

/-- The reach point of a parcel of 451 mm at Q = 96 is tray 5; earmarks of lane 0 one tray and half a loop behind it,
on it, and just past half a loop. -/
def marked : State := [4, 37, 5, 36].foldl (fun s t => s.putTray t (.free (some 0))) base

theorem witness_EarmarksBehindTheReachPointLapse :
    geo.InRange ∧ marked.tmap.length = geo.n
    ∧ reachPoint geo (geo.merge.get 0) (marked.lane 0).copy 96 320000 .one 451 = 5
    ∧ (marked.tray 4 = .free (some 0) ∧ (5 + geo.n - 4) % geo.n = 1)
    ∧ (marked.tray 37 = .free (some 0) ∧ (5 + geo.n - 37) % geo.n = geo.n / 2)
    ∧ (marked.tray 5 = .free (some 0) ∧ (5 + geo.n - 5) % geo.n = 0)
    ∧ (marked.tray 36 = .free (some 0) ∧ geo.n / 2 < (5 + geo.n - 36) % geo.n) ∧ marked.tray 9 ≠ .free (some 0)
    ∧ (marked.share 0).outstanding = countEarmarks 0 marked.tmap :=
  ⟨geo_inRange, by decide +kernel⟩

/-- Lane 0 at work at a pitch event. -/
def working (f : Lane → Lane) : State := withHold (withLane pitching 0 f) 0

theorem working_pitch {f : Lane → Lane} (hw : ∀ k, k ≠ 0 → restB (working f) k = true)
    (hu : ∀ k, quietB (working f) 96 k = true) : (working f).RunningPitch geo (at_ 320000) 5 320000 0 :=
  pitch_of rfl rfl rfl rfl hw hu

/-- A waiting lane with a parcel at hold and three flights. -/
def waitingLane (p : Measured) : State :=
  working (fun ln => { ln with
    state := .waiting, records := [.atHold p], inflight := List.replicate 3 (flight true) })

/-- One tray: FREE, earmarked to the lane, and DISABLED. Two trays: both FREE, and the second DISABLED. -/
theorem witness_WaitingLaneClaimsItsCandidate :
    let s := waitingLane small
    let t := waitingLane long
    s.RunningPitch geo (at_ 320000) 5 320000 0 ∧ t.RunningPitch geo (at_ 320000) 5 320000 0
    ∧ ((s.lane 0).state = .waiting ∧ (s.lane 0).records = .atHold small :: [] ∧ small.disposition = .induct .one
      ∧ (s.link 0).discharge = true ∧ (s.lane 0).inflight.length < 4 ∧ s.ltk.recount = 0
      ∧ leadCounts (flightTime (s.lane 0).copy 451) geo.c 320000 = 48 ∧ 48 ≤ 16 * geo.c
      ∧ candidate geo (geo.merge.get 0) (s.lane 0).copy.guard (s.nextQ geo) 48 8 = 5 ∧ s.tray 5 = .free none
      ∧ (withTray s 5 (.free (some 0))).tray 5 = .free (some 0)
      ∧ (withTray s 5 .disabled).tray 5 ≠ .free none ∧ (withTray s 5 .disabled).tray 5 ≠ .free (some 0))
    ∧ ((t.lane 0).records = .atHold long :: [] ∧ long.disposition = .induct .two
      ∧ leadCounts (flightTime (t.lane 0).copy 1000) geo.c 320000 = 57 ∧ 57 ≤ 16 * geo.c
      ∧ candidate geo (geo.merge.get 0) (t.lane 0).copy.guard (t.nextQ geo) 57 16 = 5 ∧ t.tray 5 = .free none
      ∧ t.tray 6 = .free none ∧ (withTray t 6 .disabled).tray 6 ≠ .free none
      ∧ (withTray t 6 .disabled).tray 6 ≠ .free (some 0)) := by
  refine ⟨working_pitch ?_ ?_, working_pitch ?_ ?_, ?_, ?_⟩ <;> decide +kernel

/-- A waiting lane with so much transfer time, so many flights, and its mark. -/
def waitingOut (tXfer flights : Nat) (mark : Bool) : State :=
  working (fun ln => { ln with
    state := .waiting, records := [.atHold small], inflight := List.replicate flights (flight true), leadMark := mark,
    copy := { ln.copy with tXfer := tXfer } })

theorem waitingOut_pitch : ∀ n ∈ [3, 4], ∀ mark, ∀ x ∈ [800000, 4989667],
    (waitingOut x n mark).RunningPitch geo (at_ 320000) 5 320000 0 := by
  intro n hn mark x hx
  refine pitch_of rfl rfl rfl rfl ?_ ?_ <;> revert n mark x <;> decide +kernel

/-- Each of the four conditions that fails: no link with DISCHARGE, four flights, a span of 1, and a lead of 257 over
sixteen pitches of 16, the mark clear and set. -/
theorem witness_WaitingLane_no_claim :
    (let s := withLink (waitingOut 800000 3 false) 0 (fun k => { k with discharge := false })
     ∀ k, (s.link k).discharge = false)
    ∧ 4 ≤ ((waitingOut 800000 4 false).lane 0).inflight.length
    ∧ 0 < (withLtk (waitingOut 800000 3 false) (fun k => { k with recount := 1 })).ltk.recount
    ∧ leadCounts (flightTime ((waitingOut 4989667 3 true).lane 0).copy 451) geo.c 320000 = 16 * geo.c + 1
    ∧ ((waitingOut 4989667 3 true).lane 0).leadMark = true ∧ ((waitingOut 4989667 3 false).lane 0).leadMark = false
    ∧ ∀ n ∈ [3, 4], ∀ mark, ∀ x ∈ [800000, 4989667],
      (waitingOut x n mark).RunningPitch geo (at_ 320000) 5 320000 0 := by
  refine ⟨?_, ?_, ?_, ?_, ?_, ?_, waitingOut_pitch⟩ <;> decide +kernel

/-- Lane 0 in each state that hands over its reach point here: a parcel at hold, and tray 4 earmarked to it. -/
def reaching (st : LaneState) : State :=
  withTray (working (fun ln => { ln with state := st, records := [.atHold small] })) 4 (.free (some 0))

/-- The reach point of a parcel of 451 mm is tray 5, one past the earmark. -/
theorem witness_Earmarks_lapse_at_a_pitch_event :
    (∀ st ∈ [LaneState.idle, .releasing 0 2000, .committed tracker, .waiting],
      (reaching st).RunningPitch geo (at_ 320000) 5 320000 0 ∧ ((reaching st).lane 0).state = st)
    ∧ ((reaching .waiting).lane 0).records = .atHold small :: [] ∧ small.disposition = .induct .one
    ∧ (reaching .waiting).tray 4 = .free (some 0)
    ∧ reachPoint geo (geo.merge.get 0) ((reaching .waiting).lane 0).copy 96 320000 .one 451 = 5 := by
  refine ⟨fun st h => ⟨pitch_of rfl rfl rfl rfl ?_ ?_, ?_⟩, ?_⟩
  · revert st; decide +kernel
  · revert st; decide +kernel
  · revert st; decide +kernel
  · decide +kernel

/-- A lane tracking a merge position, with so much transfer time, an overfill fault due or not, a pause pending or not. -/
def trackingLane (merge tXfer : Nat) (due pausing : Bool := false) : State :=
  withTray (working (fun ln => { ln with
    state := .tracking { tracker with merge := merge }, records := [.atHold small],
    overfillDue := due, pausePending := pausing, copy := { ln.copy with tXfer := tXfer } })) 5 (.reserved 0 none true)

theorem trackingLane_pitch (due pausing : Bool) : ∀ x ∈ [(143, 800000), (144, 800000), (145, 800000), (500, 4989667)],
    (trackingLane x.1 x.2 due pausing).RunningPitch geo (at_ 320000) 5 320000 0 := by
  intro x hx
  refine pitch_of rfl rfl rfl rfl ?_ ?_ <;> revert x due pausing <;> decide +kernel

/-- The lead is 48; the distance is −1, 0, 1, 15 and 16 with merge positions 143 to 160; and the lead is 256 and 257. -/
theorem witness_TrackingLaneActsOnItsVerdict :
    let s := trackingLane 143 800000
    (∀ due pausing, ∀ x ∈ [(143, 800000), (144, 800000), (145, 800000), (500, 4989667)],
      (trackingLane x.1 x.2 due pausing).RunningPitch geo (at_ 320000) 5 320000 0)
    ∧ (s.lane 0).state = .tracking { tracker with merge := 143 }
    ∧ (s.lane 0).records = .atHold small :: [] ∧ small.disposition = .induct .one ∧ (s.lane 0).overfillDue = false
    ∧ (s.lane 0).pausePending = false ∧ ((trackingLane 143 800000 true true).lane 0).overfillDue = true
    ∧ ((trackingLane 143 800000 true true).lane 0).pausePending = true ∧ s.tray 5 = .reserved 0 none true ∧ s.holdBlocked 0 = true
    ∧ leadCounts (flightTime (s.lane 0).copy 451) geo.c 320000 = 48
    ∧ signedDistance 1024 (s.nextQ geo) (launchPoint geo 143 48) = -1
    ∧ signedDistance 1024 (s.nextQ geo) (launchPoint geo 144 48) = 0
    ∧ signedDistance 1024 (s.nextQ geo) (launchPoint geo 145 48) = 1
    ∧ signedDistance 1024 (s.nextQ geo) (launchPoint geo 159 48) = 15
    ∧ signedDistance 1024 (s.nextQ geo) (launchPoint geo 160 48) = 16
    ∧ ({ trackingLane 144 800000 with lines := State.reset.lines } : State).holdBlocked 0 = false
    ∧ leadCounts (flightTime ((trackingLane 500 4969667).lane 0).copy 451) geo.c 320000 = 16 * geo.c
    ∧ leadCounts (flightTime ((trackingLane 500 4989667).lane 0).copy 451) geo.c 320000 = 16 * geo.c + 1 :=
  ⟨trackingLane_pitch, by decide +kernel⟩

/-- Link 0 hears the notices of a miss, of a lead out of range, of the fault that was due and of a fire, and has room. -/
theorem witness_Tracking_notices :
    let s := trackingLane 143 800000 true true
    (∀ n ∈ [Notice.claimReleased 0 .missed (some 5) none .faulted, .claimReleased 0 .leadRange (some 5) none .faulted,
        .laneFault 0 .overfill 1 (some 7) [] none, .launched 0 5 none (some 7) 451], s.hears 0 n)
    ∧ ((after (.encoderCount (at_ 320000) 5 []) s).link 0).queue.length < 32
    ∧ ((after (.encoderCount (at_ 320000) 5 []) (trackingLane 144 800000)).link 0).queue.length < 32
    ∧ ((after (.encoderCount (at_ 320000) 5 []) (trackingLane 500 4989667)).link 0).queue.length < 32 := by
  refine ⟨fun n hn => hears_of ?_, ?_, ?_, ?_⟩
  · revert n; decide +kernel
  all_goals decide +kernel

/-- Lane 0 COMMITTED, its launch point the next position, with a flight on the way; a link with room for a notice. -/
def firing : State :=
  let x := { tracker with launch := 101 }
  withTray (withQueue (withHold (withLane base 0 (fun ln => { ln with
    state := .committed x, records := [.atHold small], inflight := [flight true] })) 0) 0 31) 5 (.reserved 0 none true)

theorem witness_CommittedLaneFiresAtItsLaunchPoint :
    firing.pst.geometry = some geo ∧ geo.InRange ∧ 5 ≤ 5 ∧ firing.ltk.loop = .running ∧ firing.ltk.recount = 0
    ∧ firing.nextQ geo % geo.c ≠ 0 ∧ (∀ t, ¬ geo.centreAt t (firing.nextQ geo))
    ∧ (firing.lane 0).state = .committed { tracker with launch := 101 } ∧ 101 = firing.nextQ geo
    ∧ tracker.merge ≠ firing.nextQ geo ∧ (firing.lane 0).records = .atHold small :: [] ∧ firing.holdBlocked 0 = true
    ∧ (∀ e, (firing.lane 0).inflight.head? = some e → e.merge ≠ firing.nextQ geo)
    ∧ (∀ k, k ≠ 0 → firing.laneQuietAt (firing.nextQ geo) k) ∧ firing.tray 5 = .reserved 0 none true
    ∧ firing.holdsLane 0 0 ∧ (firing.link 0).queue.length < 32 := by
  have h : (firing.lane 0).inflight.head? = some (flight true) := by decide +kernel
  have q : ∀ k, k ≠ 0 → quietB firing (firing.nextQ geo) k = true := by decide +kernel
  refine ⟨?_, geo_inRange, ?_, ?_, ?_, ?_, fun t => no_centre (q := 101) (by decide) t, ?_, ?_, ?_, ?_, ?_,
    fun e he => ?_, fun k hk => quiet_of (q k hk), ?_, holds_of ?_, ?_⟩
  case refine_11 => rw [h] at he; cases he; decide +kernel
  all_goals decide +kernel

/-- And what its clauses ask for: a lead of 0 with no other flight, and the hold eye clear with the overfill fault due,
with a pause pending, and with neither. -/
theorem witness_CommittedLane_clauses :
    let z := withLane firing 0 (fun ln => { ln with
      state := .committed { tracker with launch := 101, merge := 101 }, inflight := [] })
    (z.lane 0).state = .committed { tracker with launch := 101, merge := 101 } ∧ 101 = z.nextQ geo
    ∧ (z.lane 0).inflight = [] ∧ (firing.lane 0).inflight ≠ []
    ∧ ({ firing with lines := State.reset.lines } : State).holdBlocked 0 = false ∧ (firing.lane 0).overfillDue = false
    ∧ (firing.lane 0).pausePending = false
    ∧ ((withLane firing 0 (fun ln => { ln with overfillDue := true })).lane 0).overfillDue = true
    ∧ ((withLane firing 0 (fun ln => { ln with pausePending := true })).lane 0).pausePending = true
    ∧ firing.tray 6 = .free none ∧ 6 ∉ tracker.trays := by decide +kernel

/-- And at a pitch event: a launch point at Q = 96, a flight on the way, and another lane TRACKING another tray. -/
def firingAtPitch : State :=
  withLane (withTray (working (fun ln => { ln with
    state := .committed { tracker with launch := 96 }, records := [.atHold small], inflight := [flight true] })) 5
      (.reserved 0 none true)) 1 (fun ln => { ln with state := .tracking { tracker with tray := 9 } })

theorem witness_CommittedLane_at_a_pitch_event :
    firingAtPitch.nextQ geo = 96 ∧ 96 % geo.c = 0 ∧ 96 ≠ geo.c ∧ ¬ firingAtPitch.losesSpeed geo (at_ 320000)
    ∧ (∀ t, ¬ geo.centreAt t 96) ∧ (firingAtPitch.lane 0).state = .committed { tracker with launch := 96 }
    ∧ (firingAtPitch.lane 0).records = .atHold small :: [] ∧ firingAtPitch.holdBlocked 0 = true ∧ tracker.merge ≠ 96
    ∧ (firingAtPitch.lane 0).inflight.head? = some (flight true) ∧ (flight true).merge ≠ 96
    ∧ (∀ k z, k ≠ 0 → (firingAtPitch.lane k).state.solution? = some z → ∀ y ∈ tracker.trays, y ∉ z.trays)
    ∧ (∀ k e, k ≠ 0 → e ∈ (firingAtPitch.lane k).inflight → ∀ y ∈ tracker.trays, y ∉ e.trays)
    ∧ firingAtPitch.tray 5 = .reserved 0 none true
    ∧ told (.encoderCount (at_ 320000) 5 []) firingAtPitch (.launched 0 5 none (some 7) 451) = true := by
  have hs : ∀ k, k ≠ 0 → (firingAtPitch.lane k).state.solution? = none
      ∨ (firingAtPitch.lane k).state.solution? = some { tracker with tray := 9 } := by decide +kernel
  have hi : ∀ k, k ≠ 0 → (firingAtPitch.lane k).inflight = [] := by decide +kernel
  refine ⟨rfl, rfl, by decide, ?_, no_centre (by decide), by decide +kernel, by decide +kernel, by decide +kernel,
    by decide, by decide +kernel, by decide, fun k z hk hz => ?_, fun k e hk he => ?_, by decide +kernel, by decide +kernel⟩
  · rintro ⟨-, i1, i2, i3, i4, h, h'⟩
    cases h
    exact absurd h' (by decide)
  · rcases hs k hk with e | e <;> rw [e] at hz <;> cases hz
    decide
  · rw [hi k hk] at he; cases he

/-- Flights at their merge position, its flag set and clear, then at it and behind it on other trays, then one ahead. -/
def behindIt : List InFlight := [{ flight true with tray := 4, merge := 101 }, { flight false with tray := 8, merge := 90 }]
def landing (clear : Bool) : State :=
  withTray (withQueue (withLane base 0 (fun ln => { ln with
    inflight := { flight clear with merge := 101 } :: behindIt ++ [flight true] })) 0 29) 3 (.launched load0 none true)

theorem landing_facts : ∀ clear, (landing clear).pst.geometry = some geo
    ∧ (landing clear).ltk.q < geo.n * geo.c ∧ (landing clear).ltk.loop ≠ .stopped ∧ (landing clear).ltk.recount = 0
    ∧ (landing clear).nextQ geo % geo.c ≠ 0
    ∧ (landing clear).lane 0
      = { base.lane 0 with inflight := { flight clear with merge := 101 } :: behindIt ++ [flight true] }
    ∧ (∀ k, k ≠ 0 → quietB (landing clear) 101 k = true) := by decide +kernel

theorem witness_FlightLandsAtItsMergePosition (clear : Bool) :
    geo.InRange ∧ (landing clear).pst.geometry = some geo ∧ (landing clear).ltk.q < geo.n * geo.c ∧ 5 ≤ 5
    ∧ (landing clear).ltk.loop ≠ .stopped ∧ (landing clear).ltk.recount = 0 ∧ (landing clear).nextQ geo % geo.c ≠ 0
    ∧ (∀ t, ¬ geo.centreAt t ((landing clear).nextQ geo))
    ∧ ((landing clear).lane 0).inflight = { flight clear with merge := 101 } :: behindIt ++ [flight true]
    ∧ 101 = (landing clear).nextQ geo
    ∧ (∀ x, ((landing clear).lane 0).state = .committed x → x.launch ≠ (landing clear).nextQ geo)
    ∧ (∀ f ∈ behindIt, signedDistance (geo.n * geo.c) ((landing clear).nextQ geo) f.merge ≤ 0)
    ∧ (∀ f, [flight true].head? = some f → 0 < signedDistance (geo.n * geo.c) ((landing clear).nextQ geo) f.merge)
    ∧ ({ flight clear with merge := 101 } :: behindIt).Pairwise (fun f f' => ∀ y ∈ f.trays, y ∉ f'.trays)
    ∧ (∀ k, k ≠ 0 → (landing clear).laneQuietAt ((landing clear).nextQ geo) k) := by
  obtain ⟨h1, h2, h3, h4, h5, h6, h7⟩ := landing_facts clear
  have hs : (base.lane 0).state = .paused := by decide +kernel
  have hq : (landing clear).nextQ geo = 101 := rfl
  refine ⟨geo_inRange, h1, h2, by decide, h3, h4, h5, fun t => no_centre (q := 101) (by decide) t, by rw [h6], hq.symm,
    fun x hx => ?_, by rw [hq]; decide, fun e he => ?_, ?_, fun k hk => quiet_of (h7 k hk)⟩
  · rw [h6] at hx
    rw [hs] at hx
    cases hx
  · cases he
    rw [hq]
    decide
  · cases clear <;> decide

/-- And what its clauses ask for: a LAUNCHED tray, and a DISCHARGE link with room for a notice. -/
theorem witness_FlightLands_clauses :
    (flight true).holdClear = true ∧ (flight false).holdClear = false
    ∧ (landing true).tray 3 = .launched load0 none true ∧ 3 ∈ (flight true).trays
    ∧ ((landing true).link 0).discharge = true ∧ ((landing true).link 0).queue.length + behindIt.length < 32 := by
  decide +kernel

/-- And at a pitch event: a pair of lane 2, whose merge point is a multiple of the pitch, at its merge position of 96,
while lane 0 tracks tray 5 there and tray 6, not of the pair, is at the check station. -/
def pairFlight : InFlight :=
  { tray := 62, partner := some 63, ticket := none, length := 1000, merge := 96, holdClear := true }
def landingAtPitch : State :=
  let s := withTray (withTray (trackingLane 160 800000) 62 (.launched load0 (some ⟨63, .lead⟩) false)) 63
    (.launched load0 (some ⟨62, .trail⟩) true)
  { withLane s 2 (fun ln => { ln with inflight := [pairFlight] }) with
    pst := { s.pst with geometry := some { geo with sChk := 1016 } } }

theorem witness_FlightLands_at_a_pitch_event :
    let g : Geometry := { geo with sChk := 1016 }
    landingAtPitch.pst.geometry = some g ∧ g.InRange ∧ landingAtPitch.ltk.recount = 0
    ∧ landingAtPitch.nextQ g = 96 ∧ 96 % g.c = 0 ∧ 96 ≠ g.c
    ∧ (landingAtPitch.lane 2).inflight = pairFlight :: [] ++ [] ∧ (landingAtPitch.lane 2).state = .paused
    ∧ (∀ k x, (landingAtPitch.lane k).state.solution? = some x → ∀ y ∈ pairFlight.trays, y ∉ x.trays)
    ∧ (∀ k e, k ≠ 2 → e ∈ (landingAtPitch.lane k).inflight → ∀ y ∈ pairFlight.trays, y ∉ e.trays)
    ∧ (∀ z, g.centreAt z 96 → ∀ y ∈ pairFlight.trays,
        y ≠ z ∧ ∀ p, (landingAtPitch.tray z).pair = some p → p.tray ≠ y) ∧ g.centreAt 6 96
    ∧ landingAtPitch.tray 62 = .launched load0 (some ⟨63, .lead⟩) false
    ∧ told (.encoderCount (at_ 320000) 5 []) landingAtPitch
        (.load 62 false (.loaded (some load0) (some ⟨63, .lead⟩) 0 true false)) = true := by
  have hs : ∀ k, (landingAtPitch.lane k).state.solution? = none
      ∨ (landingAtPitch.lane k).state.solution? = some { tracker with merge := 160 } := by decide +kernel
  have hi : ∀ k, k ≠ 2 → (landingAtPitch.lane k).inflight = [] := by decide +kernel
  refine ⟨rfl, ⟨by decide, by decide, by decide, by decide, by decide, by decide, by decide, by decide, by decide⟩, rfl,
    rfl, rfl, by decide, by decide +kernel, by decide +kernel, fun k x hx => ?_, fun k e hk he => ?_, fun z hz => ?_,
    (by unfold Geometry.centreAt; decide), by decide +kernel, by decide +kernel⟩
  · rcases hs k with e | e <;> rw [e] at hx <;> cases hx
    decide
  · rw [hi k hk] at he; cases he
  · obtain rfl : z = 6 := by simp only [Geometry.centreAt, geo] at hz; omega
    have h6 : (landingAtPitch.tray 6).pair = none := by decide +kernel
    exact fun y hy => ⟨fun e => by subst e; revert hy; decide, fun p hp => by rw [h6] at hp; cases hp⟩

/-! ### Witnesses: pacing -/

/-- A MANUAL lane in a working state, one pitch short of its beat and at it, with room and without, its call open and
answered. -/
def beating (st : LaneState) (beat records : Nat) (cue : Cue) : State :=
  (working (fun ln => { ln with
    mode := .manual, state := st, records := List.replicate records (.atHold small) })).modPace 0 (fun p =>
    { p with beat := beat, cue := cue })

/-- The five working states; TRACKING with a launch point ahead. -/
def workingStates : List LaneState :=
  [.idle, .waiting, .tracking { tracker with merge := 160 }, .committed tracker, .releasing 0 2000]

theorem beating_pitch : ∀ st ∈ workingStates, ∀ x ∈ [(6, 3, Cue.wait), (7, 4, .place), (7, 3, .wait)],
    (beating st x.1 x.2.1 x.2.2).RunningPitch geo (at_ 320000) 5 320000 0 := by
  intro st hst x hx
  refine pitch_of rfl rfl rfl rfl ?_ ?_ <;> revert st x <;> decide +kernel

theorem witness_BeatFallsAtTheActiveInterval :
    (∀ st ∈ workingStates, ∀ x ∈ [(6, 3, Cue.wait), (7, 4, .place), (7, 3, .wait)],
      (beating st x.1 x.2.1 x.2.2).RunningPitch geo (at_ 320000) 5 320000 0)
    ∧ (∀ st ∈ workingStates, ¬ (beating st 6 3 .wait).atRest 0
      ∧ ((beating st 6 3 .wait).lane 0).overfillDue = false ∧ ((beating st 6 3 .wait).lane 0).pausePending = false
      ∧ 4 ≤ ((after (.encoderCount (at_ 320000) 5 []) (beating st 7 4 .place)).lane 0).records.length)
    ∧ ((beating .idle 6 3 .wait).lane 0).mode = .manual
    ∧ ((beating .idle 6 3 .wait).paceOf 0).beat + 1 < ((beating .idle 6 3 .wait).paceOf 0).active
    ∧ ((beating .idle 7 4 .place).paceOf 0).active ≤ ((beating .idle 7 4 .place).paceOf 0).beat + 1
    ∧ ((beating .idle 7 3 .wait).lane 0).records.length < 4 ∧ ((beating .idle 7 3 .wait).paceOf 0).cue ≠ .place
    ∧ ((beating .idle 7 4 .place).paceOf 0).cue = .place
    ∧ ((beating .idle 6 3 .wait).lane 0).copy = (beating .idle 6 3 .wait).profile
        ((beating .idle 6 3 .wait).lane 0).profile := by
  refine ⟨beating_pitch, fun st h => ⟨not_rest_of ?_, ?_, ?_, ?_⟩, by decide +kernel⟩ <;> revert st <;> decide +kernel

/-! ### Witnesses: the links -/

theorem room_of {s : State} {k : LinkId} (h : (s.link k).queue.length < 40) : s.hasRoom k := h
theorem no_room_of {s : State} {k : LinkId} (h : 40 ≤ (s.link k).queue.length) : ¬ s.hasRoom k := Nat.not_lt.2 h
theorem unbound_of {s : State} {k : LinkId} (h : (s.link k).bound = false) : s.unbound k := (Link.bound_iff s k).1 h
theorem bound_of {s : State} {k : LinkId} (h : (s.link k).bound = true) : ¬ s.unbound k := by
  rw [← Link.bound_iff, h]; simp

/-- An empty payload, and one of 250 bytes. -/
theorem witness_BytesSpellTheFrame :
    (base.link 0).receiver = .hunting ∧ (List.replicate 250 (7 : Byte)).length ≤ 250
    ∧ (([0xA5, 2, 1, 9, 0xFF] : List Byte).map (fun b => (at_ 1, b))).map Prod.snd ++ [0xFF]
      = 0xA5#8 :: BitVec.ofNat 8 (([] : List Byte).length + 2) :: 1 :: 9 :: [] ++ bytesOfTwo 0xFFFF
    ∧ (((0xA5#8 :: 252#8 :: 1 :: 9 :: List.replicate 250 7 ++ [0xFF]).map (fun b => (at_ 1, b))).map Prod.snd ++ [0xFF]
      = 0xA5#8 :: BitVec.ofNat 8 ((List.replicate 250 (7 : Byte)).length + 2) :: 1 :: 9 :: List.replicate 250 7
        ++ bytesOfTwo 0xFFFF) := by
  decide +kernel

theorem witness_FramesAreTakenOrCounted :
    (Request.ping [5]).WellFormed = true ∧ (base.link 0).receiver = .hunting
    ∧ frameCrc 1 9 [5] + 1 ≠ frameCrc 1 9 [5] ∧ (0 : Byte).toNat = 0 ∧ 0x3F < (0x40 : Byte).toNat ∧ (0 : Byte) ≠ 0xA5#8
    ∧ ((withLink base 0 (fun k => { k with receiver := .collecting [4] })).link 0).receiver = .collecting [4]
    ∧ ((withLink base 0 (fun k => { k with receiver := .collecting [] })).link 0).receiver = .collecting []
    ∧ (1 : Byte).toNat < 2 ∧ 252 < (253 : Byte).toNat := by decide +kernel

/-- A link that hears each kind of audience with 31 places in use and with 32, and one that hears none. -/
theorem witness_NoticeJoinsTheQueuesThatHearIt :
    (let s := withQueue base 0 31
     (s.link 0).queue.length < 32 ∧ s.hears 0 (.state .running .stopped .stall) ∧ s.hears 0 (.slip 5)
     ∧ s.hears 0 (.launched 7 3 none none 100) ∧ s.hears 0 (.load 3 true .disabled)
     ∧ s.hears 0 (.laneFault 7 .jam 0 none [] none) ∧ s.hears 0 (.linkLapsed 1 true false none))
    ∧ (32 ≤ ((withQueue base 0 32).link 0).queue.length ∧ (withQueue base 0 32).hears 0 .markerMissing)
    ∧ ¬ base.hears 1 (.state .running .stopped .stall) ∧ ¬ base.hears 1 (.slip 5)
    ∧ ¬ base.hears 1 (.launched 7 3 none none 100) := by
  have h : ¬ (withQueue base 0 31).unbound 0 := bound_of (by decide +kernel)
  have w : (withQueue base 0 31).holdsLane 0 7 := holds_of (by decide +kernel)
  have p : ((withQueue base 0 31).link 0).planner = true := by decide +kernel
  have d : ((withQueue base 0 31).link 0).discharge = true := by decide +kernel
  have n : (base.link 1).bound = false := by decide +kernel
  have m : (base.link 1).planner = false ∧ (base.link 1).discharge = false := by decide +kernel
  refine ⟨⟨?_, h, .inl p, w, d, .inl w, p⟩, ⟨?_, .inl ?_⟩, fun c => c (unbound_of n), fun c => ?_, not_holds_of ?_⟩
  case refine_4 => rcases c with c | c <;> simp [m] at c
  all_goals decide +kernel

/-- Link 2 holds the window of lanes 0 to 1, all at rest; link 0 holds PLANNER. Lanes in each state of a loss. -/
def leaving : State :=
  let s := withLink base 0 (fun k => { k with window := none, queue := List.replicate 31 (.notice .markerMissing) })
  withLink s 2 (fun k => { k with window := some ⟨0, 1⟩, live := some 0 })
theorem leaving_windows (l : LaneId) : ∀ j, j ≠ 2 → ¬ leaving.holdsLane j l := by
  have h : ∀ j l, j ≠ 2 → (leaving.link j).holds l = false := by decide +kernel
  exact fun j hj => not_holds_of (h j l hj)
theorem witness_LiveTimerExpiryDropsTheLink :
    (leaving.link 2).live.isSome = true ∧ leaving.holdsLane 2 0 ∧ ¬ leaving.holdsLane 2 2
    ∧ (∀ l, leaving.holdsLane 2 l → leaving.atRest l ∧ ∀ j, j ≠ 2 → ¬ leaving.holdsLane j l)
    ∧ (0 : LinkId) ≠ 2 ∧ (leaving.link 0).planner = true ∧ (leaving.link 0).queue.length < 32
    ∧ ((withLane leaving 0 (fun ln => { ln with state := .idle })).lane 0).state = .idle
    ∧ ((withLane leaving 0 (fun ln => { ln with state := .committed tracker })).lane 0).state = .committed tracker := by
  have h : ∀ l, restB leaving l = true := by decide +kernel
  refine ⟨?_, holds_of ?_, not_holds_of ?_, fun l _ => ⟨rest_of (h l), leaving_windows l⟩, ?_, ?_, ?_, ?_, ?_⟩ <;>
    decide +kernel

/-! ### Witnesses: requests -/

/-- A queue of 40; a Kind that names nothing; a link with no role; DISCHARGE alone asking for PAUSE; a STATUS with a
payload; a lane outside the window, and a byte that is no lane. -/
theorem witness_RequestsAreCheckedInOrder :
    ¬ (withQueue base 0 40).hasRoom 0 ∧ (withQueue base 0 39).hasRoom 0 ∧ (base.link 0).receiver = .hunting
    ∧ (∀ r : RequestKind, r.code ≠ 0x05) ∧ (base.unbound 1 ∧ (Request.ping []).kind ≠ .bind)
    ∧ (let s := withLink base 1 (fun k => { k with discharge := true })
       ¬ s.unbound 1 ∧ ∀ role ∈ RequestKind.pause.admittedRoles, ¬ s.holdsRole 1 role)
    ∧ (Role.planner ∈ RequestKind.status.admittedRoles ∧ base.holdsRole 0 .planner
      ∧ ∀ r : Request, r.kind = .status → r.payload ≠ [0])
    ∧ ((leaving.link 2).window.isSome = true ∧ (leaving.link 2).planner = false
      ∧ (∀ l : LaneId, (2 : Byte).toNat = l.val → ¬ leaving.holdsLane 2 l)
      ∧ ∀ l : LaneId, (8 : Byte).toNat = l.val → ¬ leaving.holdsLane 2 l) := by
  have out : ∀ l : LaneId, (2 : Byte).toNat = l.val → (leaving.link 2).holds l = false := by decide +kernel
  have kinds : ∀ r : RequestKind, r.code ≠ 0x05 := by intro r; cases r <;> decide
  have pauses : ∀ role ∈ RequestKind.pause.admittedRoles,
      ¬ (withLink base 1 (fun k => { k with discharge := true })).holdsRole 1 role := by
    intro role h
    cases role <;> simp [RequestKind.admittedRoles] at h
    unfold State.holdsRole
    decide +kernel
  have bare : ∀ r : Request, r.kind = .status → r.payload ≠ [0] := by
    intro r h
    cases r <;> simp [Request.kind] at h
    simp [Request.payload]
  have eight : ∀ l : LaneId, (8 : Byte).toNat = l.val → ¬ leaving.holdsLane 2 l := by
    intro l h
    have h8 : (8 : Byte).toNat = 8 := rfl
    rw [h8] at h
    exact absurd l.isLt (by omega)
  refine ⟨no_room_of ?_, room_of ?_, ?_, kinds, ⟨unbound_of ?_, ?_⟩, ⟨bound_of ?_, pauses⟩, ⟨?_, ?_, bare⟩, ?_, ?_,
    fun l hl => not_holds_of (out l hl), eight⟩
  case refine_8 => unfold State.holdsRole; decide +kernel
  all_goals decide +kernel

theorem witness_DecodeEncodeRequest : decodeRequest 0x24 [7] = .request (.laneStatus 7) := by decide +kernel

theorem witness_PingIsEchoed :
    (withQueue base 0 39).hasRoom 0 ∧ ¬ base.unbound 0 ∧ base.unbound 1
    ∧ (List.replicate 249 (1 : Byte)).length ≤ 249 ∧ (List.replicate 250 (1 : Byte)).length = 250 := by
  refine ⟨room_of ?_, bound_of ?_, unbound_of ?_, ?_, ?_⟩ <;> decide +kernel

/-- Three and four intervals; profiles 15 and 16; tray 63 and counts 1 and 32; no geometry; a MANUAL lane. -/
theorem witness_ReportsAreReadAtOnce :
    (withQueue base 0 39).hasRoom 0 ∧ ¬ base.unbound 0 ∧ base.ltk.history = [320000, 320000, 320000, 320000]
    ∧ (withLtk base (fun k => { k with history := [1, 2, 3] })).ltk.history.length ≠ 4 ∧ (base.link 0).planner = true
    ∧ (15 : Byte).toNat = (15 : ProfileId).val ∧ 15 < (16 : Byte).toNat
    ∧ (onLoop geo).pst.geometry = some geo ∧ ({ base with pst := State.reset.pst } : State).pst.geometry = none
    ∧ geo.n ≤ (64 : BitVec 16).toNat ∧ (0 : Byte).toNat = 0 ∧ 32 < (33 : Byte).toNat
    ∧ (63 : BitVec 16).toNat < geo.n ∧ 1 ≤ (1 : Byte).toNat ∧ (32 : Byte).toNat ≤ 32 ∧ base.holdsLane 0 7
    ∧ (base.lane 0).mode ≠ .manual ∧ ((withLane base 0 (fun ln => { ln with mode := .manual })).lane 0).mode = .manual := by
  refine ⟨room_of ?_, bound_of ?_, ?_, ?_, ?_, ?_, ?_, ?_, ?_, ?_, ?_, ?_, ?_, ?_, ?_, holds_of ?_, ?_, ?_⟩ <;>
    decide +kernel

/-- The role held already, held by another link, and free; and role codes 3 and 255. -/
theorem witness_BindTakesAFreeRole :
    base.hasRoom 0 ∧ base.hasRoom 1 ∧ BindingsSound base ∧ (base.link 0).planner = true
    ∧ (base.link 0).discharge = true ∧ (0 : LinkId) ≠ 1
    ∧ (BindingsSound State.reset ∧ State.reset.hasRoom 0 ∧ (∀ j, (State.reset.link j).planner = false)
      ∧ ∀ j, (State.reset.link j).discharge = false)
    ∧ 2 < (3 : Byte).toNat ∧ 2 < (255 : Byte).toNat := by
  refine ⟨room_of ?_, room_of ?_, sound_of ?_, ?_, ?_, ?_, ⟨sound_of ?_, room_of ?_, ?_, ?_⟩, ?_, ?_⟩ <;> decide +kernel

/-- Base 3 over limit 2, and limit 8; a window of one lane that link 2 holds; a free window, as wide as can be. -/
theorem witness_WindowsAreBoundAndLost :
    BindingsSound leaving ∧ leaving.hasRoom 1 ∧ (2 : Byte).toNat < (3 : Byte).toNat ∧ 7 < (8 : Byte).toNat
    ∧ (leaving.holdsLane 2 1 ∧ (2 : LinkId) ≠ 1
      ∧ ∀ (i : LinkId) (x : LaneId), i ≠ 1 → 1 ≤ x → x ≤ 1 → leaving.holdsLane i x → 2 ≤ i)
    ∧ (∀ (j : LinkId) (x : LaneId), j ≠ 1 → 2 ≤ x → x ≤ 7 → ¬ leaving.holdsLane j x) ∧ ¬ leaving.unbound 2
    ∧ leaving.hasRoom 2 := by
  have first : ∀ (i : LinkId) (x : LaneId), i ≠ 1 → 1 ≤ x → x ≤ 1 → (leaving.link i).holds x = true → 2 ≤ i := by
    decide +kernel
  have free : ∀ (j : LinkId) (x : LaneId), j ≠ 1 → 2 ≤ x → x ≤ 7 → (leaving.link j).holds x = false := by
    decide +kernel
  refine ⟨sound_of ?_, room_of ?_, ?_, ?_, ⟨holds_of ?_, ?_, fun i x a b c h => first i x a b c ((Link.holds_iff _ _ _).2 h)⟩,
    fun j x a b c => not_holds_of (free j x a b c), bound_of ?_, room_of ?_⟩ <;> decide +kernel

/-! ### Witnesses: settings -/

/-- A slip tolerance of 4, the most that C = 16 admits, and of 5; a moving loop, a RELEASING lane, a flight, and a
STOPPED loop with neither. -/
theorem witness_SetGeometryRebuildsTheLoop :
    let s := withLtk base (fun k => { k with loop := .stopped })
    base.hasRoom 0 ∧ (base.link 0).planner = true ∧ ¬ (GeometryWords.toGeometry (words 5)).InRange
    ∧ (GeometryWords.toGeometry (words 4)).InRange ∧ base.ltk.loop = .running
    ∧ ((withLane s 0 (fun ln => { ln with state := .releasing 0 2000 })).lane 0).state = .releasing 0 2000
    ∧ ((withLane s 0 (fun ln => { ln with inflight := [flight true] })).lane 0).inflight ≠ []
    ∧ (s.ltk.loop ≠ .crawling ∧ s.ltk.loop ≠ .running ∧ (∀ l a b, (s.lane l).state ≠ .releasing a b)
      ∧ ∀ l, (s.lane l).inflight = []) := by
  have hs : ∀ l, ((withLtk base (fun k => { k with loop := .stopped })).lane l).state = .paused := by decide +kernel
  have h4 : GeometryWords.toGeometry (words 4) = geo := by decide
  have h5 : ¬ 4 * (GeometryWords.toGeometry (words 5)).slipTol ≤ (GeometryWords.toGeometry (words 5)).c := by decide
  refine ⟨room_of ?_, ?_, fun h => h5 h.slipTol.2, h4 ▸ geo_inRange, ?_, ?_, ?_, ?_, ?_,
    fun l a b e => (by rw [hs l] at e; cases e), ?_⟩ <;> decide +kernel

/-- Numbers 15 and 16, modes 1 and 2; lanes 7 and 8; an ABSENT lane and a PAUSED one. -/
theorem witness_ProfilesReachTheirLanes :
    let s := withLane base 0 (fun ln => { ln with mode := .absent, state := .absent })
    s.hasRoom 0 ∧ (s.link 0).planner = true ∧ 15 < (16 : Byte).toNat ∧ 1 < (2 : Byte).toNat
    ∧ (15 : Byte).toNat = (15 : ProfileId).val ∧ (1 : Byte).toNat ≤ 1 ∧ 7 < (8 : Byte).toNat
    ∧ (s.lane 0).profile = 0 ∧ (s.lane 0).state = .absent ∧ (s.lane 1).profile = 0 ∧ (s.lane 1).state ≠ .absent
    ∧ (s.lane 1).profile ≠ 15 := by
  refine ⟨room_of ?_, ?_⟩ <;> decide +kernel

/-- Lane 8 and mode 3; a lane at work; a change out of ABSENT with no geometry record and with one; the mode a lane has
already; and the changes between AUTO and MANUAL, PAUSED and FAULTED. -/
theorem witness_SetLaneModeChangesARestingLane :
    let a := withLane base 0 (fun ln => { ln with mode := .absent, state := .absent })
    let n : State := { a with pst := State.reset.pst }
    let w := withLane base 0 (fun ln => { ln with state := .idle })
    let f := withLane base 0 (fun ln => { ln with mode := .manual, state := .faulted .jam })
    base.hasRoom 0 ∧ (base.link 0).planner = true ∧ 7 < (8 : Byte).toNat ∧ 2 < (3 : Byte).toNat ∧ ¬ w.atRest 0
    ∧ (n.atRest 0 ∧ (n.lane 0).inflight = [] ∧ (n.lane 0).mode = .absent ∧ n.pst.geometry = none)
    ∧ (base.atRest 0 ∧ (base.lane 0).inflight = [] ∧ (base.lane 0).mode = .auto ∧ (base.lane 0).state = .paused)
    ∧ (a.atRest 0 ∧ (a.lane 0).mode = .absent ∧ a.pst.geometry ≠ none)
    ∧ (f.atRest 0 ∧ (f.lane 0).inflight = [] ∧ (f.lane 0).mode = .manual ∧ (f.lane 0).state = .faulted .jam) := by
  refine ⟨room_of ?_, ?_, ?_, ?_, not_rest_of ?_, ⟨rest_of ?_, ?_⟩, ⟨rest_of ?_, ?_⟩, ⟨rest_of ?_, ?_⟩,
    rest_of ?_, ?_⟩ <;> decide +kernel

/-- Sixteen slots and seventeen; quotas of 1,024 and 1,025; a window without PLANNER. -/
theorem witness_AllocationAndPaceAreSet :
    base.hasRoom 0 ∧ (base.link 0).planner = true ∧ 16 < (17 : Byte).toNat ∧ ([7] : List Byte).length ≠ (2 : Byte).toNat
    ∧ ([8] : List Byte) ≠ [] ∧ 7 < (8 : Byte).toNat
    ∧ List.replicate 16 (7 : Byte) = (List.replicate 16 (7 : LaneId)).map laneByte
    ∧ (16 : Byte).toNat = (List.replicate 16 (7 : LaneId)).length ∧ min (1025 : BitVec 16).toNat 1024 = 1024
    ∧ leaving.holdsLane 2 1 ∧ (leaving.link 2).planner = false ∧ leaving.hasRoom 2 := by
  refine ⟨room_of ?_, ?_, ?_, ?_, ?_, ?_, ?_, ?_, ?_, holds_of ?_, ?_, room_of ?_⟩ <;> decide +kernel

/-! ### Witnesses: the map, restarts and lane requests -/

/-- No geometry; base 3 over limit 2, and limit 64; a window to tray 63 that meets no claim. -/
theorem witness_WindowsOfTraysAreDisabledAndEnabled :
    base.hasRoom 0 ∧ (base.link 0).planner = true ∧ ({ base with pst := State.reset.pst } : State).pst.geometry = none
    ∧ base.pst.geometry = some geo ∧ (2 : BitVec 16).toNat < (3 : BitVec 16).toNat ∧ geo.n ≤ (64 : BitVec 16).toNat
    ∧ (63 : BitVec 16).toNat < geo.n ∧ base.tmap.length = geo.n
    ∧ (∀ x h pr d y, base.tray x = .reserved h pr d → (base.lane h).state ≠ .tracking y) := by
  have hs : ∀ l, (base.lane l).state = .paused := by decide +kernel
  refine ⟨room_of ?_, ?_, ?_, ?_, ?_, ?_, ?_, ?_, fun x h pr d y _ e => (by rw [hs h] at e; cases e)⟩ <;> decide +kernel

/-- The window of trays 4 to 7 meets the claim on trays 5 and 6, and tray 7 is LOADED; the window of tray 5 alone
leaves the partner out, its disable pending set. -/
theorem witness_WindowsOfTrays_claims :
    let x := { tracker with partner := some 6 }
    let p (d : Bool) := withTray (withTray (withTray (withLane claiming 0 (fun ln => { ln with
      state := .tracking x })) 5 (.reserved 0 (some ⟨6, .lead⟩) false)) 6 (.reserved 0 (some ⟨5, .trail⟩) d)) 7
      (.loaded none none 0 false false)
    (p false).hasRoom 0 ∧ ((p false).link 0).planner = true ∧ (p false).tray 5 = .reserved 0 (some ⟨6, .lead⟩) false
    ∧ ((p false).lane 0).state = .tracking x ∧ (p false).tray 6 = .reserved 0 (some ⟨5, .trail⟩) false
    ∧ [4, 7] = [4, 5, 6, 7].filter (fun z => z ≠ 5 ∧ (some ⟨6, .lead⟩ : Option Partner).map Partner.tray ≠ some z)
    ∧ ((p false).tray 4 = .free none ∧ (p false).tray 7 = .loaded none none 0 false false)
    ∧ [] = [5].filter (fun z => z ≠ 5 ∧ (some ⟨6, .lead⟩ : Option Partner).map Partner.tray ≠ some z)
    ∧ 6 ∉ [5] ∧ (p true).tray 6 = .reserved 0 (some ⟨5, .trail⟩) true := by
  refine ⟨room_of ?_, ?_⟩ <;> decide +kernel

/-- No geometry; trays 63 and 64; and a tray in each state. -/
theorem witness_DischargeReportsFreeTrays :
    let pair := withTray (withTray base 8 (.loaded none (some ⟨9, .lead⟩) 0 false true)) 9
      (.loaded none (some ⟨8, .trail⟩) 0 false false)
    base.hasRoom 0 ∧ (base.link 0).discharge = true ∧ ({ base with pst := State.reset.pst } : State).pst.geometry = none
    ∧ base.pst.geometry = some geo ∧ geo.n ≤ (64 : BitVec 16).toNat ∧ (63 : BitVec 16).toNat < geo.n
    ∧ base.tmap.length = geo.n ∧ (withTray base 63 (.loaded none none 0 false true)).tray 63 = .loaded none none 0 false true
    ∧ pair.tray 8 = .loaded none (some ⟨9, .lead⟩) 0 false true ∧ 9 ≠ 8
    ∧ pair.tray 9 = .loaded none (some ⟨8, .trail⟩) 0 false false
    ∧ (withTray base 63 (.unverified true)).tray 63 = .unverified true
    ∧ (withTray base 63 (.blocked 1 .ghost)).tray 63 = .blocked 1 .ghost ∧ (base.tray 63).state = .free
    ∧ (claiming.tray 5).state = .reserved ∧ (flying.tray 3).state = .launched
    ∧ ((withTray base 63 .disabled).tray 63).state = .disabled := by
  refine ⟨room_of ?_, ?_⟩ <;> decide +kernel

theorem witness_RestartSetsEveryBlock :
    base.hasRoom 0 ∧ (base.link 0).planner = true ∧ 10000 ≤ 10000 ∧ base.lines.restartActive = false
    ∧ ({ base with lines := { base.lines with restartActive := true } } : State).lines.restartActive = true
    ∧ 50 ≤ 50 := by
  refine ⟨room_of ?_, ?_⟩ <;> decide +kernel

theorem witness_ResyncUnsynchronisesTheLoop :
    flying.hasRoom 0 ∧ (flying.link 0).planner = true ∧ ({ base with pst := State.reset.pst } : State).pst.geometry = none
    ∧ flying.pst.geometry = some geo ∧ (withLtk base (fun k => { k with loop := .unsynced })).ltk.loop = .unsynced
    ∧ flying.ltk.loop = .running ∧ flying.ltk.loop ≠ .unsynced
    ∧ (flying.lane 0).state.solution? = some tracker ∧ (flying.lane 1).inflight = [flight false]
    ∧ 3 ∈ (flight false).trays ∧ flying.tray 3 = .launched { holder := 1, ticket := none, length := 100 } none true
    ∧ (flying.lane 1).state.solution? = none
    ∧ flying.hears 0 (.state .running .unsynced .resync) ∧ flying.hears 0 (.unverified 3 none .resync 1 none)
    ∧ ((after (.resync (at_ 1) 0 9) flying).link 0).queue.length < 32 := by
  refine ⟨room_of ?_, ?_, ?_, ?_, ?_, ?_, ?_, ?_, ?_, ?_, ?_, ?_, hears_of ?_, hears_of ?_, ?_⟩ <;> decide +kernel

/-- A lane of the window in each state, its hold eye clear and blocked, with seven tickets and with eight. -/
theorem witness_LaneRequestsActOnTheirLane :
    let st (x : LaneState) := withLane base 0 (fun ln => { ln with state := x })
    let rs (x : List ParcelRecord) := withHold (withLane base 0 (fun ln => { ln with records := x })) 0
    let tk (n : Nat) := withLane base 0 (fun ln => { ln with tickets := List.replicate n 1 })
    base.hasRoom 0 ∧ base.holdsLane 0 0 ∧ ((st .idle).lane 0).state ≠ .paused
    ∧ ((base.lane 0).state = .paused ∧ (base.lane 0).overfillDue = false ∧ (base.lane 0).pausePending = false
      ∧ base.holdBlocked 0 = false)
    ∧ ((rs [.onBelt small]).holdBlocked 0 = true ∧ ((rs [.onBelt small]).lane 0).records = .onBelt small :: []
      ∧ ((rs [.atHold reject]).lane 0).records = .atHold reject :: [] ∧ ((rs []).lane 0).records = []
      ∧ ((rs [.measuring 0 none]).lane 0).records = .measuring 0 none :: [])
    ∧ ((st .absent).lane 0).state = .absent ∧ ((st (.faulted .tooLong)).lane 0).state = .faulted .tooLong
    ∧ ((st (.faulted .overfill)).lane 0).state = .faulted .overfill
    ∧ ((st (.committed tracker)).lane 0).state = .committed tracker
    ∧ ((st (.releasing 0 2000)).lane 0).state = .releasing 0 2000 ∧ ((st .idle).lane 0).state = .idle
    ∧ ((st .waiting).lane 0).state = .waiting
    ∧ ((claiming.lane 0).state = .tracking tracker ∧ 5 ∈ tracker.trays ∧ claiming.tray 5 = .reserved 0 none false)
    ∧ (base.lane 0).state.fault? = none ∧ ((st (.faulted .jam)).lane 0).overfillDue = false
    ∧ 8 ≤ ((tk 8).lane 0).tickets.length ∧ ((tk 7).lane 0).tickets.length < 8 := by
  refine ⟨room_of ?_, holds_of ?_, ?_⟩ <;> decide +kernel

/-- What ARM, PAUSE and CLEAR tell: the fault a lane comes to, and the claim a PAUSE takes. -/
theorem witness_LaneRequest_notices :
    let rs (x : List ParcelRecord) := withHold (withLane base 0 (fun ln => { ln with records := x })) 0
    let due (x : LaneState) := withLane base 0 (fun ln => { ln with state := x, overfillDue := true })
    told (.arm (at_ 1) 0 9 0) (rs []) (.laneFault 0 .unmeasured 0 none [] none) = true
    ∧ told (.arm (at_ 1) 0 9 0) (rs [.onBelt reject]) (.laneFault 0 .tooLong 1 none [] none) = true
    ∧ told (.pause (at_ 1) 0 9 0) claiming (.claimReleased 0 .paused (some 5) none .paused) = true
    ∧ told (.pause (at_ 1) 0 9 0) (due .idle) (.laneFault 0 .overfill 0 none [] none) = true
    ∧ told (.clear (at_ 1) 0 9 0) (due (.faulted .jam)) (.laneFault 0 .overfill 0 none [] none) = true := by
  decide +kernel

end Sys2Proof.Tests
end

/-! Settles O57: the discharge reports DISCHARGED and CLEAR_BLOCK (R37, R39). First what a write of the map shows,
then what each report answers by the state of the named tray, then the two commands. -/

namespace Sys2Proof.Machine

/-! ### Freed trays -/

@[simp] theorem Tray.earmark_freed (e : Tray) : e.freed.earmark = none := by
  unfold Tray.freed
  split <;> rfl

@[simp] theorem Tray.state_freed (e : Tray) : e.freed.state = if e.disablePending then .disabled else .free := by
  unfold Tray.freed
  split <;> rfl

theorem State.freeLoaded_of_loaded {s : State} {t : Nat} (h : (s.tray t).state = .loaded) :
    s.freeLoaded t = s.putTray t (s.tray t).freed := by
  unfold State.freeLoaded
  cases e : s.tray t <;> simp_all [Tray.state]

/-- A tray that carries no earmark is freed by a write of the map alone. -/
theorem State.putTray_freed {s : State} {t : Nat} (e : Tray) (h : (s.tray t).earmark = none) :
    s.putTray t e.freed = { s with tmap := s.tmap.set t e.freed } :=
  s.putTray_unmarked t e.freed h e.earmark_freed

theorem Tray.earmark_of_loaded {e : Tray} (h : e.state = .loaded) : e.earmark = none := by
  cases e <;> simp_all [Tray.state, Tray.earmark]

/-- A LOADED tray lies in the map. -/
theorem State.lt_of_loaded {s : State} {t : Nat} (h : (s.tray t).state = .loaded) : t < s.tmap.length := by
  apply s.tray_lt
  intro e
  simp [e, Tray.state] at h

/-- R25, R28: two LOADED trays freed one after the other, each by its own disable pending: the map, and what the two
read as in it. -/
theorem State.freeLoaded_both {s : State} {a b : Nat} (ha : (s.tray a).state = .loaded)
    (hb : (s.tray b).state = .loaded) (hab : b ≠ a) :
    (s.freeLoaded a).freeLoaded b = { s with tmap := (s.tmap.set a (s.tray a).freed).set b (s.tray b).freed }
      ∧ (((s.freeLoaded a).freeLoaded b).tray a).state = (s.tray a).freed.state
      ∧ (((s.freeLoaded a).freeLoaded b).tray b).state = (s.tray b).freed.state := by
  have keeps : (s.putTray a (s.tray a).freed).tray b = s.tray b := s.tray_putTray_ne _ hab
  have written : (s.freeLoaded a).freeLoaded b = (s.putTray a (s.tray a).freed).putTray b (s.tray b).freed := by
    rw [State.freeLoaded_of_loaded ha, State.freeLoaded_of_loaded (by rwa [keeps]), keeps]
  rw [written]
  refine ⟨?_, ?_, ?_⟩
  · rw [State.putTray_freed _ (by rw [keeps]; exact Tray.earmark_of_loaded hb),
      State.putTray_freed _ (Tray.earmark_of_loaded ha)]
  · rw [State.tray_putTray_ne _ _ hab.symm, State.tray_putTray_self _ _ (State.lt_of_loaded ha)]
  · rw [State.tray_putTray_self _ _ (by simpa using State.lt_of_loaded hb)]

/-! ### The report DISCHARGED on a tray, by its state (R37) -/

theorem State.discharge_single {s : State} {t : Nat} {ld : Option LaneLoad} {c : Nat} {f d : Bool}
    (h : s.tray t = .loaded ld none c f d) :
    s.discharge t = (okReply (.trays [(t, if d then .disabled else .free)]),
      State.begin { s with tmap := s.tmap.set t (if d then .disabled else .free none) }) := by
  have hl : (s.tray t).state = .loaded := by rw [h]; rfl
  have hfree : s.freeLoaded t = { s with tmap := s.tmap.set t (s.tray t).freed } := by
    rw [State.freeLoaded_of_loaded hl, State.putTray_freed _ (Tray.earmark_of_loaded hl)]
  have hstate : ((s.freeLoaded t).tray t).state = if d then .disabled else .free := by
    rw [State.freeLoaded_of_loaded hl, s.tray_putTray_self _ (State.lt_of_loaded hl), Tray.state_freed, h]
    rfl
  simp only [State.discharge, h, pairTrays, List.foldl_cons, List.foldl_nil, List.map_cons, List.map_nil, hstate]
  rw [hfree, h]
  rfl

/-- R28, R37: either member of a pair, LEAD `a` and TRAIL `b`, may be named. -/
theorem State.discharge_pair {s : State} {t a b : Nat} {ld la lb : Option LaneLoad} {p pa pb : Option Partner}
    {c ca cb : Nat} {f fa fb d da db : Bool} (h : s.tray t = .loaded ld p c f d) (hp : pairTrays t p = [a, b])
    (hab : b ≠ a) (ha : s.tray a = .loaded la pa ca fa da) (hb : s.tray b = .loaded lb pb cb fb db) :
    s.discharge t
      = (okReply (.trays [(a, if da then .disabled else .free), (b, if db then .disabled else .free)]),
        State.begin { s with tmap :=
          (s.tmap.set a (if da then .disabled else .free none)).set b (if db then .disabled else .free none) }) := by
  have hla : (s.tray a).state = .loaded := by rw [ha]; rfl
  have hlb : (s.tray b).state = .loaded := by rw [hb]; rfl
  obtain ⟨map, reads_a, reads_b⟩ := State.freeLoaded_both hla hlb hab
  simp only [State.discharge, h, hp, List.foldl_cons, List.foldl_nil, List.map_cons, List.map_nil, reads_a, reads_b,
    Tray.state_freed]
  rw [map, ha, hb]
  rfl

theorem State.discharge_unverified {s : State} {t : Nat} {d : Bool} (hlt : t < s.tmap.length)
    (h : s.tray t = .unverified d) :
    s.discharge t = (okReply (.trays [(t, if d then .disabled else .free)]),
      State.begin { s with tmap := s.tmap.set t (if d then .disabled else .free none) }) := by
  simp only [State.discharge, h, s.tray_putTray_self _ hlt, Tray.state_freed]
  rw [State.putTray_freed _ (by rw [h]; rfl)]
  rfl

/-- R26: a BLOCKED tray is made UNVERIFIED by a write of the map alone; it carries no disable pending to keep. -/
theorem State.unverify_blocked {s : State} {t : Nat} {n : Nat} {c : BlockCause} (h : s.tray t = .blocked n c) :
    s.putTray t (Tray.unverify (.blocked n c)) = { s with tmap := s.tmap.set t (.unverified false) } :=
  s.putTray_unmarked t _ (by rw [h]; rfl) rfl

theorem State.discharge_blocked {s : State} {t : Nat} {n : Nat} {c : BlockCause} (hlt : t < s.tmap.length)
    (h : s.tray t = .blocked n c) :
    s.discharge t = (okReply (.trays [(t, .unverified)]),
      State.begin { s with tmap := s.tmap.set t (.unverified false) }) := by
  simp only [State.discharge, h, s.tray_putTray_self _ hlt]
  rw [State.unverify_blocked h]
  rfl

theorem State.discharge_stale {s : State} {t : Nat} (h : (s.tray t).state = .free ∨ (s.tray t).state = .reserved
      ∨ (s.tray t).state = .launched ∨ (s.tray t).state = .disabled) :
    s.discharge t = (refusal .stale (.present (s.tray t).state), s.begin) := by
  unfold State.discharge
  cases e : s.tray t with
  | free _ => rfl
  | reserved _ _ _ => rfl
  | launched _ _ _ => rfl
  | disabled => rfl
  | loaded _ _ _ _ _ => simp [e, Tray.state] at h
  | unverified _ => simp [e, Tray.state] at h
  | blocked _ _ => simp [e, Tray.state] at h

/-! ### The checks of the tray index (R37, R39) -/

theorem State.badTray_noGeometry {s : State} (t : Nat) (h : s.pst.geometry = none) :
    s.badTray t = some .wrongState := by
  simp [State.badTray, h]

theorem State.badTray_outside {s : State} {g : Geometry} {t : Nat} (h : s.pst.geometry = some g) (ht : g.n ≤ t) :
    s.badTray t = some .badValue := by
  simp [State.badTray, h, ht]

theorem State.badTray_inside {s : State} {g : Geometry} {t : Nat} (h : s.pst.geometry = some g) (ht : t < g.n) :
    s.badTray t = none := by
  simp [State.badTray, h, ht]

theorem ownDischarged_refused {s : State} {tray : BitVec 16} {reason : RefuseReason}
    (h : s.badTray tray.toNat = some reason) : ownDischarged tray s = (refusal reason, s.begin) := by
  simp only [ownDischarged, h]
  rfl

theorem ownDischarged_taken {s : State} {tray : BitVec 16} (h : s.badTray tray.toNat = none) :
    ownDischarged tray s = s.discharge tray.toNat := by
  simp only [ownDischarged, h]

theorem ownClearBlock_refused {s : State} {tray : BitVec 16} {reason : RefuseReason}
    (h : s.badTray tray.toNat = some reason) : ownClearBlock tray s = (refusal reason, s.begin) := by
  simp only [ownClearBlock, h]
  rfl

theorem ownClearBlock_blocked {s : State} {tray : BitVec 16} {n : Nat} {c : BlockCause}
    (h : s.badTray tray.toNat = none) (hlt : tray.toNat < s.tmap.length) (hb : s.tray tray.toNat = .blocked n c) :
    ownClearBlock tray s = (okReply (.tray tray.toNat .unverified),
      State.begin { s with tmap := s.tmap.set tray.toNat (.unverified false) }) := by
  simp only [ownClearBlock, h, hb, s.tray_putTray_self _ hlt]
  rw [State.unverify_blocked hb]
  rfl

theorem ownClearBlock_stale {s : State} {tray : BitVec 16} (h : s.badTray tray.toNat = none)
    (hb : (s.tray tray.toNat).state ≠ .blocked) :
    ownClearBlock tray s = (refusal .stale (.present (s.tray tray.toNat).state), s.begin) := by
  simp only [ownClearBlock, h]
  cases e : s.tray tray.toNat with
  | blocked _ _ => simp [e, Tray.state] at hb
  | _ => rfl

/-! ### The two commands -/

/-- R164 step 7: a request whose owner posts no notice leaves the owner's state, with the owner's reply queued. -/
theorem State.request_answered {s u : State} {m : Moment} {k : LinkId} {tag : Byte} {kind : RequestKind}
    {lane : Option Byte} {owner : State → Reply × Change} {r : Reply} (hroom : s.hasRoom k)
    (hgate : (s.link k).gate kind true lane = none) (howner : owner (s.heard m k) = (r, u.begin)) :
    s.request m k tag kind lane owner = u.replied k kind.code tag r := by
  rw [State.request_admitted hroom hgate, howner]
  rfl

theorem exec_discharged_answered {s u : State} {m : Moment} {k : LinkId} {tag : Byte} {tray : BitVec 16} {r : Reply}
    (hroom : s.hasRoom k) (hrole : (s.link k).discharge = true)
    (howner : ownDischarged tray (s.heard m k) = (r, u.begin)) :
    exec (.discharged m k tag tray) s = .next (u.replied k 0x18 tag r) :=
  congrArg Host.Outcome.next (State.request_answered hroom (State.gate_discharge hrole hrole) howner)

theorem exec_clearBlock_answered {s u : State} {m : Moment} {k : LinkId} {tag : Byte} {tray : BitVec 16} {r : Reply}
    (hroom : s.hasRoom k) (hrole : (s.link k).discharge = true ∨ (s.link k).planner = true)
    (howner : ownClearBlock tray (s.heard m k) = (r, u.begin)) :
    exec (.clearBlock m k tag tray) s = .next (u.replied k 0x19 tag r) := by
  have hadmits : (s.link k).admits .clearBlock = true := by simpa [Link.admits] using hrole
  have hgate : (s.link k).gate .clearBlock true none = none :=
    hrole.elim (State.gate_discharge · hadmits) (State.gate_planner · hadmits)
  exact congrArg Host.Outcome.next (State.request_answered hroom hgate howner)

/-- Settles O57: past the checks of R37 and R39 the report's owner answers by the state of the named tray, and the
request hands its reply and its map on unchanged. -/
theorem dischargeReportsFreeTrays : Obligations.DischargeReportsFreeTrays := by
  rintro m k tag s tray x rfl hroom
  refine ⟨fun hrole => ?discharged, fun hrole => ?clearBlock⟩
  case discharged =>
    have refused {reason : RefuseReason} (h : s.badTray tray.toNat = some reason) :=
      exec_discharged_answered (m := m) (tag := tag) hroom hrole (ownDischarged_refused (s := s.heard m k) h)
    refine ⟨fun hg => refused (State.badTray_noGeometry _ hg), fun g hg =>
      ⟨fun hx => refused (State.badTray_outside hg hx), fun hx hlen => ?_⟩⟩
    have hlt : tray.toNat < (s.heard m k).tmap.length := Nat.lt_of_lt_of_eq hx hlen.symm
    have taken {r : Reply} {u : State} (h : (s.heard m k).discharge tray.toNat = (r, u.begin)) :=
      exec_discharged_answered (tag := tag) hroom hrole
        ((ownDischarged_taken (s := s.heard m k) (State.badTray_inside hg hx)).trans h)
    refine ⟨fun _ _ _ _ h => taken (State.discharge_single h), fun _ _ y r _ _ _ _ _ _ _ h hne h' => ?_,
      fun _ h => taken (State.discharge_unverified hlt h),
      fun _ _ h => taken (State.discharge_blocked hlt h),
      fun h => taken (State.discharge_stale h)⟩
    cases r with
    | lead => exact taken (State.discharge_pair h rfl hne h h')
    | trail =>
      rw [List.set_comm _ _ hne.symm]
      exact taken (State.discharge_pair h rfl hne.symm h' h)
  case clearBlock =>
    have refused {reason : RefuseReason} (h : s.badTray tray.toNat = some reason) :=
      exec_clearBlock_answered (m := m) (tag := tag) hroom hrole (ownClearBlock_refused (s := s.heard m k) h)
    refine ⟨fun hg => refused (State.badTray_noGeometry _ hg), fun g hg =>
      ⟨fun hx => refused (State.badTray_outside hg hx), fun hx hlen => ?_⟩⟩
    have hlt : tray.toNat < (s.heard m k).tmap.length := Nat.lt_of_lt_of_eq hx hlen.symm
    have inside : (s.heard m k).badTray tray.toNat = none := State.badTray_inside hg hx
    exact ⟨fun _ _ h => exec_clearBlock_answered hroom hrole (ownClearBlock_blocked inside hlt h),
      fun h => exec_clearBlock_answered hroom hrole (ownClearBlock_stale inside h)⟩

end Sys2Proof.Machine

/-! Settles O55: SET_ROTATION, SET_QUOTA and SET_PACE (R126, R130, R145). First the numbers and slots that name lanes,
then what each request's owner answers, then the three commands. -/

namespace Sys2Proof.Machine

/-! ### Lane numbers and rotation slots -/

theorem laneOf_eq_none_iff {b : Byte} : laneOf b = none ↔ 7 < b.toNat := by
  unfold laneOf
  split
  case isTrue h => exact iff_of_false (Option.some_ne_none _) (by omega)
  case isFalse h => exact iff_of_true rfl (by omega)

/-- R126: one slot above 7 spoils the list. -/
theorem slotsOf_eq_none_iff {bs : List Byte} : slotsOf bs = none ↔ ∃ b ∈ bs, 7 < b.toNat := by
  induction bs with
  | nil => simp [slotsOf]
  | cons b bs ih =>
    have here_or_later : (∃ c ∈ b :: bs, 7 < c.toNat) ↔ laneOf b = none ∨ slotsOf bs = none := by
      simp only [List.mem_cons, exists_eq_or_imp, laneOf_eq_none_iff, ih]
    rw [here_or_later, slotsOf]
    cases laneOf b with
    | none => exact iff_of_true rfl (.inl rfl)
    | some l =>
      cases slotsOf bs with
      | none => exact iff_of_true rfl (.inr rfl)
      | some ls => exact iff_of_false nofun (fun h => h.elim nofun nofun)

theorem length_of_slotsOf {bs : List Byte} {ls : List LaneId} (h : slotsOf bs = some ls) :
    ls.length = bs.length := by
  induction bs generalizing ls with
  | nil =>
    cases h
    rfl
  | cons b bs ih =>
    unfold slotsOf at h
    split at h
    case h_1 hrest =>
      cases h
      exact congrArg Nat.succ (ih hrest)
    case h_2 => cases h

@[simp] theorem slotsOf_map_laneByte (ls : List LaneId) : slotsOf (ls.map laneByte) = some ls := by
  induction ls with
  | nil => rfl
  | cons l ls ih => simp [slotsOf, ih]

/-- R126: a lane's weight is the number of slots that carry it. -/
theorem weights_get (ls : List LaneId) (l : LaneId) : (weights ls).get l = ls.count l := by
  match l with
  | 0 | 1 | 2 | 3 | 4 | 5 | 6 | 7 => rfl

/-! ### What the owners answer -/

theorem ownSetRotation_badValue {s : State} {count : Byte} {slots : List Byte}
    (h : 16 < count.toNat ∨ slots.length ≠ count.toNat ∨ ∃ b ∈ slots, 7 < b.toNat) :
    ownSetRotation count slots s = (refusal .badValue, s.begin) := by
  unfold ownSetRotation
  split
  case h_1 => rfl
  case h_2 ls hls =>
    have named : ¬ ∃ b ∈ slots, 7 < b.toNat := by simp [← slotsOf_eq_none_iff, hls]
    have length := length_of_slotsOf hls
    have misfit : Config.rotationPlaces < count.toNat ∨ ls.length ≠ count.toNat := by
      rcases h with many | short | outside
      · exact .inl many
      · exact .inr (length ▸ short)
      · exact absurd outside named
    exact if_pos misfit

theorem ownSetRotation_taken {s : State} {count : Byte} {ls : List LaneId} (hcount : count.toNat = ls.length)
    (hfit : ls.length ≤ 16) :
    ownSetRotation count (ls.map laneByte) s = (okReply (.rotation ls.length (weights ls)),
      State.begin { s with eal := { s.eal with rotation := ls, position := 0 } }) := by
  have fits : ¬ (Config.rotationPlaces < count.toNat ∨ ls.length ≠ count.toNat) := by
    simp [Config.rotationPlaces, hcount, hfit]
  simp only [ownSetRotation, slotsOf_map_laneByte, if_neg fits]
  rfl

theorem ownSetQuota_badValue {s : State} {lane : Byte} {quota : BitVec 16} (h : 7 < lane.toNat) :
    ownSetQuota lane quota s = (refusal .badValue, s.begin) := by
  simp only [ownSetQuota, laneOf_eq_none_iff.2 h]
  rfl

theorem ownSetQuota_taken (s : State) (l : LaneId) (quota : BitVec 16) {q c : Nat} (hq : q = min quota.toNat 1024)
    (hc : c = min (s.share l).counter q) :
    ownSetQuota (laneByte l) quota s = (⟨.ok (decide (1024 < quota.toNat)), .quota l q c⟩,
      (s.modShare l (fun x => { x with reload := q, counter := c })).begin) := by
  subst hc hq
  simp only [ownSetQuota, laneOf_laneByte, State.share_modShare_self]
  rfl

theorem ownSetPace_badValue {s : State} {lane interval : Byte} (h : 7 < lane.toNat) :
    ownSetPace lane interval s = (refusal .badValue, s.begin) := by
  simp only [ownSetPace, laneOf_eq_none_iff.2 h]
  rfl

/-- R145: the active interval in the reply is the one before the request; only the pending one is written. -/
theorem ownSetPace_taken (s : State) (l : LaneId) (interval : Byte) {x : Nat}
    (hx : x = max (s.lane l).copy.iMin (min (s.lane l).copy.iMax interval.toNat)) :
    ownSetPace (laneByte l) interval s
      = (⟨.ok (decide (x ≠ interval.toNat)), .pace l x (s.paceOf l).active (s.lane l).copy.mode⟩,
        (s.modPace l (fun p => { p with pending := x })).begin) := by
  subst hx
  simp only [ownSetPace, laneOf_laneByte, State.paceOf_modPace_self]
  rfl

/-! ### The three commands -/

/-- R164 step 6: SET_PACE from a planner's link is admitted for every lane number, one above 7 as well. -/
theorem State.gate_setPace_planner {s : State} {k : LinkId} (h : (s.link k).planner = true) (lane : Byte) :
    (s.link k).gate .setPace true (some lane) = none := by
  simp [Link.gate, Link.bound, Link.admits, Link.outOfWindow, h]

theorem State.gate_setPace {s : State} {k : LinkId} {l : LaneId}
    (h : (s.link k).planner = true ∨ s.holdsLane k l) : (s.link k).gate .setPace true (some (laneByte l)) = none :=
  h.elim (State.gate_setPace_planner · _) fun held => State.gate_lane held fun hw => by simp [Link.admits, hw]

theorem exec_setRotation_answered {s u : State} {m : Moment} {k : LinkId} {tag count : Byte} {slots : List Byte}
    {r : Reply} (hroom : s.hasRoom k) (hrole : (s.link k).planner = true)
    (howner : ownSetRotation count slots (s.heard m k) = (r, u.begin)) :
    exec (.setRotation m k tag count slots) s = .next (u.replied k 0x0D tag r) :=
  congrArg Host.Outcome.next (State.request_answered hroom (State.gate_planner hrole hrole) howner)

theorem exec_setQuota_answered {s u : State} {m : Moment} {k : LinkId} {tag lane : Byte} {quota : BitVec 16}
    {r : Reply} (hroom : s.hasRoom k) (hrole : (s.link k).planner = true)
    (howner : ownSetQuota lane quota (s.heard m k) = (r, u.begin)) :
    exec (.setQuota m k tag lane quota) s = .next (u.replied k 0x0E tag r) :=
  congrArg Host.Outcome.next (State.request_answered hroom (State.gate_planner hrole hrole) howner)

theorem exec_setPace_answered {s u : State} {m : Moment} {k : LinkId} {tag lane interval : Byte} {r : Reply}
    (hroom : s.hasRoom k) (hgate : (s.link k).gate .setPace true (some lane) = none)
    (howner : ownSetPace lane interval (s.heard m k) = (r, u.begin)) :
    exec (.setPace m k tag lane interval) s = .next (u.replied k 0x0F tag r) :=
  congrArg Host.Outcome.next (State.request_answered hroom hgate howner)

/-- Settles O55: past the gate each request is its owner's, which refuses what is out of range and otherwise writes
the one thing the request names. The passing of time moves no lane's share, pacing or active copy. -/
theorem allocationAndPaceAreSet : Obligations.AllocationAndPaceAreSet := by
  intro m k tag s hroom
  refine ⟨fun hrole count slots => ⟨fun bad => ?_, ?_⟩, fun hrole quota => ⟨fun lane hlane => ?_, ?_⟩,
    fun interval => ⟨fun hrole lane hlane => ?_, ?_⟩⟩
  · exact exec_setRotation_answered hroom hrole (ownSetRotation_badValue bad)
  · rintro ls rfl hcount hfit
    exact ⟨weights ls, weights_get ls, exec_setRotation_answered hroom hrole (ownSetRotation_taken hcount hfit)⟩
  · exact exec_setQuota_answered hroom hrole (ownSetQuota_badValue hlane)
  · intro l q c hq hc
    exact exec_setQuota_answered hroom hrole (ownSetQuota_taken (s.heard m k) l quota hq hc)
  · exact exec_setPace_answered hroom (State.gate_setPace_planner hrole lane) (ownSetPace_badValue hlane)
  · intro l x hadmitted hx
    have copy : ((s.heard m k).lane l).copy = (s.lane l).copy := by simp
    rw [← copy] at hx ⊢
    exact exec_setPace_answered hroom (State.gate_setPace hadmitted) (ownSetPace_taken (s.heard m k) l interval hx)

end Sys2Proof.Machine

/-! Settles O53: WRITE_PROFILE and BIND_PROFILE (R146, R150, R152, R156). First the numbers and clamped fields that the
requests carry, then what each does to a lane, then the owners and the two commands. -/

namespace Sys2Proof.Machine

/-! ### Profile numbers, pace modes and clamped fields -/

theorem profileOf_eq_none_iff {b : Byte} : profileOf b = none ↔ 15 < b.toNat := by
  unfold profileOf
  split
  case isTrue h => exact iff_of_false (Option.some_ne_none _) (by omega)
  case isFalse h => exact iff_of_true rfl (by omega)

theorem profileOf_of_toNat {b : Byte} {i : ProfileId} (h : b.toNat = i.val) : profileOf b = some i := by
  simp [profileOf, h]

theorem paceModeOf_of_large {b : Byte} (h : 1 < b.toNat) : paceModeOf b = none := by
  have h0 : b ≠ 0#8 := by rintro rfl; simp at h
  have h1 : b ≠ 1#8 := by rintro rfl; simp at h
  simp [paceModeOf, h0, h1]

theorem paceModeOf_of_small {b : Byte} (h : b.toNat ≤ 1) :
    paceModeOf b = some (if b = 0 then .fixed else .auto) := by
  by_cases h0 : b = 0#8
  · simp [paceModeOf, h0]
  · have h1 : b = 1#8 := by bv_omega
    simp [paceModeOf, h1]

/-- R150: the clamped flag is clear exactly where every field is stored as it was sent. -/
theorem ProfileWords.clampedFlag_eq_false_iff {w : ProfileWords} {mode : PaceMode} {p : Profile}
    (hp : p = ProfileWords.clamped w mode) :
    decide (p ≠ ProfileWords.asSent w mode) = false ↔ p.tXfer = w.tXfer.toNat ∧ p.vB = w.vB.toNat
      ∧ p.guard = w.guard.toNat ∧ p.holdClearMs = w.holdClearMs.toNat ∧ p.minLength = w.minLength.toNat
      ∧ p.cap = w.cap.toNat ∧ p.fixed = w.fixed.toNat ∧ p.iMin = w.iMin.toNat ∧ p.iMax = w.iMax.toNat := by
  have same_mode : p.mode = mode := congrArg Profile.mode hp
  clear hp
  rw [decide_eq_false_iff_not, Decidable.not_not]
  cases p
  simp_all [ProfileWords.asSent]

/-! ### Adoption of the pacing figures, and a lane that is told (R146, R153, R156) -/

theorem Pace.adopt_adopted (old new : Profile) (p : Pace) : Pace.Adopted old new p (Pace.adopt old new p) := by
  unfold Pace.adopt
  split
  case isTrue same => exact ⟨fun _ _ _ _ => rfl, fun differ => absurd same differ⟩
  case isFalse differ =>
    refine ⟨fun hm hf hi hx => absurd ⟨hm, hf, hi, hx⟩ differ, fun _ => ⟨?_, rfl, rfl, rfl⟩⟩
    cases new.mode <;> simp [Profile.clampInterval, clampTo]

/-- R150: a lane bound to another record is not told. -/
theorem State.storeProfile_elsewhere {s : State} {i : ProfileId} (p : Profile) {l : LaneId}
    (h : (s.lane l).profile ≠ i) :
    (s.storeProfile i p).lane l = s.lane l ∧ (s.storeProfile i p).paceOf l = s.paceOf l := by
  obtain ⟨-, -, -, -, -, -, -, -, -, lanes⟩ := s.storeProfile_spec i p
  simpa [h] using lanes l

/-- R153: a lane bound to the record stored is marked, outside ABSENT. -/
theorem State.storeProfile_marks {s : State} {i : ProfileId} (p : Profile) {l : LaneId}
    (h : (s.lane l).profile = i) (hs : (s.lane l).state ≠ .absent) :
    (s.storeProfile i p).lane l = { s.lane l with adoptPending := true }
      ∧ (s.storeProfile i p).paceOf l = s.paceOf l := by
  obtain ⟨-, -, -, -, -, -, -, -, -, lanes⟩ := s.storeProfile_spec i p
  simpa [h, hs] using lanes l

/-- R156: in ABSENT it adopts the record within the request. -/
theorem State.storeProfile_adopts {s : State} {i : ProfileId} (p : Profile) {l : LaneId}
    (h : (s.lane l).profile = i) (hs : (s.lane l).state = .absent) :
    (s.storeProfile i p).lane l = { s.lane l with copy := p, adoptPending := false }
      ∧ (s.storeProfile i p).paceOf l = Pace.adopt (s.lane l).copy p (s.paceOf l) := by
  obtain ⟨-, -, -, -, -, -, -, -, -, lanes⟩ := s.storeProfile_spec i p
  simpa [h, hs] using lanes l

theorem State.setLane_setLane (s : State) (l : LaneId) (a b : Lane) :
    (s.setLane l a).setLane l b = s.setLane l b := by
  simp [State.setLane]

theorem State.modLane_modLane (s : State) (l : LaneId) (f g : Lane → Lane) :
    (s.modLane l f).modLane l g = s.modLane l (fun x => g (f x)) := by
  simp only [State.modLane, State.setLane_setLane, State.lane_setLane_self]

/-- R153: outside ABSENT a binding leaves a mark, and no more. -/
theorem State.profileChanged_bound {s : State} {l : LaneId} (i : ProfileId) (h : (s.lane l).state ≠ .absent) :
    (s.modLane l (fun x => { x with profile := i })).profileChanged l
      = s.modLane l (fun x => { x with profile := i, adoptPending := true }) := by
  rw [State.profileChanged, if_neg (by simpa using h), State.modLane_modLane]

/-- R156: a binding in ABSENT is an adoption of the record newly bound. -/
theorem State.profileChanged_bound_absent {s : State} {l : LaneId} (i : ProfileId)
    (h : (s.lane l).state = .absent) :
    (s.modLane l (fun x => { x with profile := i })).profileChanged l
      = (s.modPace l (Pace.adopt (s.lane l).copy (s.profile i))).setLane l
          { s.lane l with profile := i, copy := s.profile i, adoptPending := false } := by
  rw [State.profileChanged, if_pos (by simpa using h), State.adopt, State.lane_modLane_self]
  exact State.setLane_setLane (s.modPace l (Pace.adopt (s.lane l).copy (s.profile i))) l _ _

/-! ### What the owners answer -/

theorem ownWriteProfile_badValue {number : Byte} {w : ProfileWords} (s : State)
    (h : 15 < number.toNat ∨ 1 < w.mode.toNat) : ownWriteProfile number w s = (refusal .badValue, s.begin) := by
  rcases h with outside | unnamed
  · simp only [ownWriteProfile, profileOf_eq_none_iff.2 outside]
    rfl
  · simp only [ownWriteProfile, paceModeOf_of_large unnamed]
    split
    case h_1 hmode => cases hmode
    case h_2 => rfl

theorem ownWriteProfile_taken {number : Byte} {w : ProfileWords} {i : ProfileId} (s : State)
    (hi : number.toNat = i.val) {mode : PaceMode} (hmode : paceModeOf w.mode = some mode) :
    ownWriteProfile number w s
      = (⟨.ok (decide (ProfileWords.clamped w mode ≠ ProfileWords.asSent w mode)),
          .profileWritten i (ProfileWords.clamped w mode)⟩,
        (s.storeProfile i (ProfileWords.clamped w mode)).begin) := by
  simp only [ownWriteProfile, profileOf_of_toNat hi, hmode]

theorem ownBindProfile_badValue {lane number : Byte} (s : State) (h : 7 < lane.toNat ∨ 15 < number.toNat) :
    ownBindProfile lane number s = (refusal .badValue, s.begin) := by
  rcases h with noLane | noProfile
  · simp only [ownBindProfile, laneOf_eq_none_iff.2 noLane]
    rfl
  · simp only [ownBindProfile, profileOf_eq_none_iff.2 noProfile]
    split
    case h_1 hprofile => cases hprofile
    case h_2 => rfl

theorem ownBindProfile_pending {s : State} {l : LaneId} {number : Byte} {i : ProfileId} (hi : number.toNat = i.val)
    (h : (s.lane l).state ≠ .absent) :
    ownBindProfile (laneByte l) number s = (okReply (.profileBound l i true),
      (s.modLane l (fun x => { x with profile := i, adoptPending := true })).begin) := by
  simp only [ownBindProfile, laneOf_laneByte, profileOf_of_toNat hi, State.profileChanged_bound i h,
    State.lane_modLane_self]
  rfl

theorem ownBindProfile_absent {s : State} {l : LaneId} {number : Byte} {i : ProfileId} (hi : number.toNat = i.val)
    (h : (s.lane l).state = .absent) :
    ownBindProfile (laneByte l) number s = (okReply (.profileBound l i false),
      ((s.modPace l (Pace.adopt (s.lane l).copy (s.profile i))).setLane l
        { s.lane l with profile := i, copy := s.profile i, adoptPending := false }).begin) := by
  simp only [ownBindProfile, laneOf_laneByte, profileOf_of_toNat hi, State.profileChanged_bound_absent i h,
    State.lane_setLane_self]
  rfl

/-! ### The two commands -/

theorem exec_writeProfile_answered {s u : State} {m : Moment} {k : LinkId} {tag number : Byte} {w : ProfileWords}
    {r : Reply} (hroom : s.hasRoom k) (hrole : (s.link k).planner = true)
    (howner : ownWriteProfile number w (s.heard m k) = (r, u.begin)) :
    exec (.writeProfile m k tag number w) s = .next (u.replied k 0x09 tag r) :=
  congrArg Host.Outcome.next (State.request_answered hroom (State.gate_planner hrole hrole) howner)

theorem exec_bindProfile_answered {s u : State} {m : Moment} {k : LinkId} {tag lane number : Byte} {r : Reply}
    (hroom : s.hasRoom k) (hrole : (s.link k).planner = true)
    (howner : ownBindProfile lane number (s.heard m k) = (r, u.begin)) :
    exec (.bindProfile m k tag lane number) s = .next (u.replied k 0x0B tag r) :=
  congrArg Host.Outcome.next (State.request_answered hroom (State.gate_planner hrole hrole) howner)

/-- Settles O53: past the gate WRITE_PROFILE is a stored record, which `State.storeProfile_spec` follows lane by lane,
and BIND_PROFILE is a mark on its lane or an adoption in ABSENT. The passing of time moves no lane's binding, state or
copy. -/
theorem profilesReachTheirLanes : Obligations.ProfilesReachTheirLanes := by
  intro m k tag s hrole hroom
  have state (l : LaneId) : ((s.heard m k).lane l).state = (s.lane l).state := by simp
  have binding (l : LaneId) : ((s.heard m k).lane l).profile = (s.lane l).profile := by simp
  have copy (l : LaneId) : ((s.heard m k).lane l).copy = (s.lane l).copy := by simp
  refine ⟨fun number w bad => ?badWrite, fun number w i p hi hmode hp => ?write, fun lane number bad => ?badBind,
    fun l number i hi => ?bind⟩
  case badWrite => exact exec_writeProfile_answered hroom hrole (ownWriteProfile_badValue _ bad)
  case badBind => exact exec_bindProfile_answered hroom hrole (ownBindProfile_badValue _ bad)
  case write =>
    have mode_named := paceModeOf_of_small hmode
    have clamped : p = ProfileWords.clamped w (if w.mode = 0 then .fixed else .auto) := hp
    have flag := ProfileWords.clampedFlag_eq_false_iff clamped
    have taken := exec_writeProfile_answered (tag := tag) hroom hrole
      (ownWriteProfile_taken (s.heard m k) hi mode_named)
    rw [← clamped] at taken
    obtain ⟨hltk, htmap, hcsm, heal, hpst, hlinks, hlines, hmicros, hpending, -⟩ :=
      (s.heard m k).storeProfile_spec i p
    have elsewhere (l : LaneId) (hl : (s.lane l).profile ≠ i) :=
      State.storeProfile_elsewhere p (mt (binding l).symm.trans hl)
    have marks (l : LaneId) (hl : (s.lane l).profile = i) (hs : (s.lane l).state ≠ .absent) :=
      State.storeProfile_marks p ((binding l).trans hl) (mt (state l).symm.trans hs)
    have adopts (l : LaneId) (hl : (s.lane l).profile = i) (hs : (s.lane l).state = .absent) :=
      State.storeProfile_adopts p ((binding l).trans hl) ((state l).trans hs)
    generalize (s.heard m k).storeProfile i p = u at *
    have hgeometry : u.pst.geometry = s.pst.geometry := by
      rw [hpst]
      rfl
    refine ⟨_, _, taken, ?links, flag, ?stored, fun j hj => ?others, hgeometry, elsewhere, marks,
      fun l hl hs => ?adopted, hltk, htmap, hcsm, heal, hlines, hmicros, hpending⟩
    case links => simp only [State.replied, State.modLink, State.link, hlinks]
    case stored => exact (congrArg (Bank.get ·.profiles i) hpst).trans (Bank.get_set_self _ _ _)
    case others => exact (congrArg (Bank.get ·.profiles j) hpst).trans (Bank.get_set_ne _ hj _)
    case adopted =>
      obtain ⟨lane, pace⟩ := adopts l hl hs
      rw [copy] at pace
      refine ⟨lane, ?_⟩
      show Pace.Adopted _ _ _ (u.paceOf l)
      exact pace ▸ Pace.adopt_adopted _ _ _
  case bind =>
    by_cases absent : (s.lane l).state = .absent
    case neg =>
      exact ⟨_, exec_bindProfile_answered hroom hrole (ownBindProfile_pending hi (mt (state l).symm.trans absent)),
        fun _ => rfl, fun h => absurd h absent⟩
    case pos =>
      refine ⟨_, exec_bindProfile_answered hroom hrole (ownBindProfile_absent hi ((state l).trans absent)),
        fun h => absurd absent h, fun _ => ⟨State.lane_setLane_self _ _ _, ?pace, rfl,
          ⟨fun j hj => State.lane_setLane_ne _ hj _, fun j hj => (State.paceOf_modPace _ _ _ _).trans (if_neg hj)⟩,
          ⟨rfl, rfl⟩, ⟨rfl, rfl, rfl, rfl, rfl, rfl⟩⟩⟩
      case pace =>
        show Pace.Adopted _ _ _ (((s.heard m k).modPace l _).paceOf l)
        rw [State.paceOf_modPace_self, copy]
        exact Pace.adopt_adopted _ _ _

end Sys2Proof.Machine

/-! Settles O52: SET_GEOMETRY (R159, R160). First the fields and their ranges, then the states in which it is BUSY, then
what its owner answers, then the command. -/

namespace Sys2Proof

theorem Bank.mem_toList {n : Nat} {α : Type} {b : Bank n α} {a : α} : a ∈ b.toList ↔ ∃ i, b.get i = a := by
  simp [Bank.toList, Bank.get_eq_getElem, Array.mem_iff_getElem, Fin.exists_iff]

end Sys2Proof

namespace Sys2Proof.Machine

/-! ### The fields and their ranges (R158, R159 step 1) -/

theorem Geometry.merge_inRange_iff (g : Geometry) :
    (∀ ok ∈ g.merge.toList.map (fun x => decide (x < g.nc)), ok = true) ↔ ∀ l, g.merge.get l < g.nc := by
  simp [Bank.mem_toList]

/-- R159's checks all pass exactly where the record lies in the ranges of R158. -/
theorem Geometry.forall_inRange_iff (g : Geometry) : (∀ ok ∈ g.inRange, ok = true) ↔ g.InRange := by
  simp only [Geometry.inRange, List.forall_mem_append, g.merge_inRange_iff, List.forall_mem_cons, List.not_mem_nil,
    false_imp_iff, implies_true, and_true, decide_eq_true_iff]
  constructor
  · intro ⟨⟨⟨n, c, sChk⟩, merge⟩, u, slipTol, pSlow, tStall, recircLimit⟩
    exact ⟨n, c, sChk, merge, u, slipTol, pSlow, tStall, recircLimit⟩
  · intro ⟨n, c, sChk, merge, u, slipTol, pSlow, tStall, recircLimit⟩
    exact ⟨⟨⟨n, c, sChk⟩, merge⟩, u, slipTol, pSlow, tStall, recircLimit⟩

theorem Geometry.firstBad_eq_none_iff (g : Geometry) : g.firstBad = none ↔ g.InRange := by
  rw [← g.forall_inRange_iff, Geometry.firstBad, List.findIdx?_eq_none_iff]
  simp

theorem Geometry.firstBad_spec {g : Geometry} {i : Nat} (h : g.firstBad = some i) :
    g.inRange[i]? = some false ∧ ∀ j, j < i → g.inRange[j]? = some true := by
  obtain ⟨hi, bad, before⟩ := List.findIdx?_eq_some_iff_getElem.1 h
  refine ⟨by simpa [List.getElem?_eq_getElem hi] using bad, fun j hj => ?_⟩
  have good := before j hj
  simpa [List.getElem?_eq_getElem (Nat.lt_trans hj hi)] using good

/-! ### When it is BUSY (R159 step 2) -/

theorem LaneState.name_eq_releasing_iff (x : LaneState) : x.name = .releasing ↔ ∃ a b, x = .releasing a b := by
  cases x <;> simp [LaneState.name]

theorem State.geometryBusy_iff (s : State) :
    s.geometryBusy = true ↔ s.ltk.loop = .crawling ∨ s.ltk.loop = .running
      ∨ (∃ l a b, (s.lane l).state = .releasing a b) ∨ ∃ l, (s.lane l).inflight ≠ [] := by
  have lanes : (allLanes.any fun l => (s.lane l).state.name == .releasing || !(s.lane l).inflight.isEmpty) = true
      ↔ (∃ l a b, (s.lane l).state = .releasing a b) ∨ ∃ l, (s.lane l).inflight ≠ [] := by
    simp [mem_allLanes, LaneState.name_eq_releasing_iff, exists_or]
  rw [State.geometryBusy, Bool.or_eq_true, decide_eq_true_iff, lanes, or_assoc]

/-- The passing of time makes no lane RELEASING and launches nothing. -/
theorem State.geometryBusy_heard_iff (s : State) (m : Moment) (k : LinkId) :
    (s.heard m k).geometryBusy = true ↔ s.geometryBusy = true := by
  simp [State.geometryBusy_iff]

/-! ### What the owner answers -/

theorem ownSetGeometry_badValue {w : GeometryWords} {i : Nat} (s : State)
    (h : (GeometryWords.toGeometry w).firstBad = some i) :
    ownSetGeometry w s = (refusal .badValue (.geometryField i), s.begin) := by
  simp only [ownSetGeometry, h]
  rfl

theorem ownSetGeometry_busy {w : GeometryWords} {s : State} (h : (GeometryWords.toGeometry w).InRange)
    (hb : s.geometryBusy = true) : ownSetGeometry w s = (refusal .busy (.loop s.ltk.loop), s.begin) := by
  simp only [ownSetGeometry, (Geometry.firstBad_eq_none_iff _).2 h, if_pos hb]
  rfl

theorem ownSetGeometry_accepted {w : GeometryWords} {s : State} (h : (GeometryWords.toGeometry w).InRange)
    (hb : ¬ s.geometryBusy = true) :
    ownSetGeometry w s = (okReply (.geometry (GeometryWords.toGeometry w)), s.accept (GeometryWords.toGeometry w)) := by
  simp only [ownSetGeometry, (Geometry.firstBad_eq_none_iff _).2 h, if_neg hb]
  rfl

/-! ### The command -/

theorem exec_setGeometry_answered {s u : State} {m : Moment} {k : LinkId} {tag : Byte} {w : GeometryWords} {r : Reply}
    (hroom : s.hasRoom k) (hrole : (s.link k).planner = true)
    (howner : ownSetGeometry w (s.heard m k) = (r, u.begin)) :
    exec (.setGeometry m k tag w) s = .next (u.replied k 0x08 tag r) :=
  congrArg Host.Outcome.next (State.request_answered hroom (State.gate_planner hrole hrole) howner)

/-- R160, R164 step 7: the STATE event of cause GEOMETRY joins behind the reply. -/
theorem exec_setGeometry_accepted {s : State} {m : Moment} {k : LinkId} {tag : Byte} {w : GeometryWords} {g : Geometry}
    {r : Reply} (hroom : s.hasRoom k) (hrole : (s.link k).planner = true)
    (howner : ownSetGeometry w (s.heard m k) = (r, (s.heard m k).accept g)) :
    exec (.setGeometry m k tag w) s = .next ((((s.heard m k).accepted g).replied k 0x08 tag r).posting
      [.state s.ltk.loop .unsynced .geometry]) := by
  have request := State.request_admitted (m := m) (tag := tag) (owner := ownSetGeometry w) hroom
    (State.gate_planner (kind := .setGeometry) hrole hrole)
  rw [howner] at request
  exact congrArg Host.Outcome.next request

/-- Settles O52: the owner's three answers, by the first field out of range, then by the state it finds; the accepted
state is the table of R160 block by block. -/
theorem setGeometryRebuildsTheLoop : Obligations.SetGeometryRebuildsTheLoop := by
  rintro m k tag w s g hrole hroom rfl
  have busy_iff := (s.geometryBusy_heard_iff m k).trans s.geometryBusy_iff
  refine ⟨fun outside => ?_, fun inside busy => ?_, fun inside notCrawling notRunning noRelease noFlight => ?_⟩
  · obtain ⟨i, hi⟩ := Option.ne_none_iff_exists'.1 (mt (Geometry.firstBad_eq_none_iff _).1 outside)
    exact ⟨i, exec_setGeometry_answered hroom hrole (ownSetGeometry_badValue _ hi), Geometry.firstBad_spec hi⟩
  · exact exec_setGeometry_answered hroom hrole (ownSetGeometry_busy inside (busy_iff.2 busy))
  · have idle : ¬ (s.heard m k).geometryBusy = true := by
      rw [busy_iff]
      rintro (crawling | running | ⟨l, a, b, releasing⟩ | ⟨l, flying⟩)
      · exact notCrawling crawling
      · exact notRunning running
      · exact noRelease l a b releasing
      · exact flying (noFlight l)
    exact exec_setGeometry_accepted hroom hrole (ownSetGeometry_accepted inside idle)

end Sys2Proof.Machine

/-! Settles O48: PING (R176). First the gate for links with a role and without, then what its owner answers, then the
command. -/

namespace Sys2Proof.Machine

/-! ### The gate (R164, R165) -/

/-- R164 step 3: before a payload is looked at, a link with no role is refused everything but BIND. -/
theorem State.gate_notBound {s : State} {k : LinkId} {kind : RequestKind} (h : s.unbound k) (hk : kind ≠ .bind)
    (ok : Bool) (lane : Option Byte) : (s.link k).gate kind ok lane = some .notBound :=
  if_pos ⟨hk, (Link.bound_iff s k).2 h⟩

/-- R165: one role, whichever it is, admits a PING. -/
theorem State.gate_ping {s : State} {k : LinkId} (h : ¬ s.unbound k) : (s.link k).gate .ping true none = none := by
  have bound : (s.link k).bound = true := by simpa [← Link.bound_iff] using h
  simp [Link.gate, Link.admits, Link.outOfWindow, bound]

/-! ### What the owner answers -/

theorem ownPing_echo {bytes : List Byte} (s : State) (h : bytes.length ≤ 249) :
    ownPing bytes s = (okReply (.echo bytes), s.begin) :=
  if_pos h

theorem ownPing_badValue {bytes : List Byte} (s : State) (h : 249 < bytes.length) :
    ownPing bytes s = (refusal .badValue, s.begin) :=
  if_neg (Nat.not_le.2 h)

/-! ### The command -/

theorem exec_ping_answered {s u : State} {m : Moment} {k : LinkId} {tag : Byte} {bytes : List Byte} {r : Reply}
    (hroom : s.hasRoom k) (hbound : ¬ s.unbound k) (howner : ownPing bytes (s.heard m k) = (r, u.begin)) :
    exec (.ping m k tag bytes) s = .next (u.replied k 0x01 tag r) :=
  congrArg Host.Outcome.next (State.request_answered hroom (State.gate_ping hbound) howner)

theorem exec_ping_notBound {s : State} {m : Moment} {k : LinkId} {tag : Byte} {bytes : List Byte}
    (hroom : s.hasRoom k) (hunbound : s.unbound k) :
    exec (.ping m k tag bytes) s = .next ((s.heard m k).replied k 0x01 tag (refusal .notBound)) :=
  congrArg Host.Outcome.next (State.request_refused hroom (State.gate_notBound (kind := .ping) hunbound nofun _ _))

/-- Settles O48: a link with a role passes the gate to the owner, which answers by the length of the bytes; one with
none is stopped at the gate, whatever the bytes. -/
theorem pingIsEchoed : Obligations.PingIsEchoed := by
  intro m k tag bytes s hroom
  refine ⟨fun hbound fits => ?echo, fun hbound full => ?tooLong, fun hunbound => ?noRole⟩
  case echo => exact exec_ping_answered hroom hbound (ownPing_echo _ fits)
  case tooLong => exact exec_ping_answered hroom hbound (ownPing_badValue _ (by omega))
  case noRole => exact exec_ping_notBound hroom hunbound

end Sys2Proof.Machine
